-- ==== Sys2Proof/Word.lean ====
section
/-! DEFINITION. The widths of 00_scope.md R8: bytes, addresses and the 64-bit counters. -/

namespace Sys2Proof

/-- A byte: A, X, Y, SP, P, a memory cell, an operand byte. -/
abbrev Byte := BitVec 8

/-- A 16-bit address or instruction operand: PC, EA, a shadow frame's target. -/
abbrev Word := BitVec 16

/-- An unsigned 64-bit counter: CYC (R37) and the entries of RCYC and RCALLS (R40, D23). -/
abbrev Count := BitVec 64

end Sys2Proof
end

