-- ==== Sys2Proof/Syntax.lean ====
section
/-! DEFINITION. The instructions: one constructor per row of spec/opcode_table.json (30_encoding.md R95, R96).
Operand bytes stand in the constructor as R93 names them: `v` imm8, `z` zp8, `r` rel8, `a` abs16 and `p` the abs16
pointer of the indirect mode. -/

namespace Sys2Proof

/-- An instruction with its operand bytes. -/
inductive Instr where
  /-- LDA immediate, 0xA9 (R170). -/
  | ldaImmediate (v : Byte)
  /-- LDA zero_page, 0xA5 (R170). -/
  | ldaZeroPage (z : Byte)
  /-- LDA zero_page_x, 0xB5 (R170). -/
  | ldaZeroPageX (z : Byte)
  /-- LDA absolute, 0xAD (R170). -/
  | ldaAbsolute (a : Word)
  /-- LDA absolute_x, 0xBD (R170). -/
  | ldaAbsoluteX (a : Word)
  /-- LDA absolute_y, 0xB9 (R170). -/
  | ldaAbsoluteY (a : Word)
  /-- LDA indexed_indirect_x, 0xA1 (R170). -/
  | ldaIndexedIndirectX (z : Byte)
  /-- LDA indirect_indexed_y, 0xB1 (R170). -/
  | ldaIndirectIndexedY (z : Byte)
  /-- LDA zero_page_indirect, 0xB2 (R170). -/
  | ldaZeroPageIndirect (z : Byte)
  /-- LDX immediate, 0xA2 (R171). -/
  | ldxImmediate (v : Byte)
  /-- LDX zero_page, 0xA6 (R171). -/
  | ldxZeroPage (z : Byte)
  /-- LDX zero_page_y, 0xB6 (R171). -/
  | ldxZeroPageY (z : Byte)
  /-- LDX absolute, 0xAE (R171). -/
  | ldxAbsolute (a : Word)
  /-- LDX absolute_y, 0xBE (R171). -/
  | ldxAbsoluteY (a : Word)
  /-- LDY immediate, 0xA0 (R172). -/
  | ldyImmediate (v : Byte)
  /-- LDY zero_page, 0xA4 (R172). -/
  | ldyZeroPage (z : Byte)
  /-- LDY zero_page_x, 0xB4 (R172). -/
  | ldyZeroPageX (z : Byte)
  /-- LDY absolute, 0xAC (R172). -/
  | ldyAbsolute (a : Word)
  /-- LDY absolute_x, 0xBC (R172). -/
  | ldyAbsoluteX (a : Word)
  /-- STA zero_page, 0x85 (R173). -/
  | staZeroPage (z : Byte)
  /-- STA zero_page_x, 0x95 (R173). -/
  | staZeroPageX (z : Byte)
  /-- STA absolute, 0x8D (R173). -/
  | staAbsolute (a : Word)
  /-- STA absolute_x, 0x9D (R173). -/
  | staAbsoluteX (a : Word)
  /-- STA absolute_y, 0x99 (R173). -/
  | staAbsoluteY (a : Word)
  /-- STA indexed_indirect_x, 0x81 (R173). -/
  | staIndexedIndirectX (z : Byte)
  /-- STA indirect_indexed_y, 0x91 (R173). -/
  | staIndirectIndexedY (z : Byte)
  /-- STA zero_page_indirect, 0x92 (R173). -/
  | staZeroPageIndirect (z : Byte)
  /-- STX zero_page, 0x86 (R174). -/
  | stxZeroPage (z : Byte)
  /-- STX zero_page_y, 0x96 (R174). -/
  | stxZeroPageY (z : Byte)
  /-- STX absolute, 0x8E (R174). -/
  | stxAbsolute (a : Word)
  /-- STY zero_page, 0x84 (R175). -/
  | styZeroPage (z : Byte)
  /-- STY zero_page_x, 0x94 (R175). -/
  | styZeroPageX (z : Byte)
  /-- STY absolute, 0x8C (R175). -/
  | styAbsolute (a : Word)
  /-- STZ zero_page, 0x64 (R176). -/
  | stzZeroPage (z : Byte)
  /-- STZ zero_page_x, 0x74 (R176). -/
  | stzZeroPageX (z : Byte)
  /-- STZ absolute, 0x9C (R176). -/
  | stzAbsolute (a : Word)
  /-- STZ absolute_x, 0x9E (R176). -/
  | stzAbsoluteX (a : Word)
  /-- TAX implied, 0xAA (R177). -/
  | tax
  /-- TAY implied, 0xA8 (R178). -/
  | tay
  /-- TXA implied, 0x8A (R179). -/
  | txa
  /-- TYA implied, 0x98 (R180). -/
  | tya
  /-- TSX implied, 0xBA (R181). -/
  | tsx
  /-- TXS implied, 0x9A (R182). -/
  | txs
  /-- ADC immediate, 0x69 (R203). -/
  | adcImmediate (v : Byte)
  /-- ADC zero_page, 0x65 (R203). -/
  | adcZeroPage (z : Byte)
  /-- ADC zero_page_x, 0x75 (R203). -/
  | adcZeroPageX (z : Byte)
  /-- ADC absolute, 0x6D (R203). -/
  | adcAbsolute (a : Word)
  /-- ADC absolute_x, 0x7D (R203). -/
  | adcAbsoluteX (a : Word)
  /-- ADC absolute_y, 0x79 (R203). -/
  | adcAbsoluteY (a : Word)
  /-- ADC indexed_indirect_x, 0x61 (R203). -/
  | adcIndexedIndirectX (z : Byte)
  /-- ADC indirect_indexed_y, 0x71 (R203). -/
  | adcIndirectIndexedY (z : Byte)
  /-- ADC zero_page_indirect, 0x72 (R203). -/
  | adcZeroPageIndirect (z : Byte)
  /-- SBC immediate, 0xE9 (R204). -/
  | sbcImmediate (v : Byte)
  /-- SBC zero_page, 0xE5 (R204). -/
  | sbcZeroPage (z : Byte)
  /-- SBC zero_page_x, 0xF5 (R204). -/
  | sbcZeroPageX (z : Byte)
  /-- SBC absolute, 0xED (R204). -/
  | sbcAbsolute (a : Word)
  /-- SBC absolute_x, 0xFD (R204). -/
  | sbcAbsoluteX (a : Word)
  /-- SBC absolute_y, 0xF9 (R204). -/
  | sbcAbsoluteY (a : Word)
  /-- SBC indexed_indirect_x, 0xE1 (R204). -/
  | sbcIndexedIndirectX (z : Byte)
  /-- SBC indirect_indexed_y, 0xF1 (R204). -/
  | sbcIndirectIndexedY (z : Byte)
  /-- SBC zero_page_indirect, 0xF2 (R204). -/
  | sbcZeroPageIndirect (z : Byte)
  /-- AND immediate, 0x29 (R205). -/
  | andImmediate (v : Byte)
  /-- AND zero_page, 0x25 (R205). -/
  | andZeroPage (z : Byte)
  /-- AND zero_page_x, 0x35 (R205). -/
  | andZeroPageX (z : Byte)
  /-- AND absolute, 0x2D (R205). -/
  | andAbsolute (a : Word)
  /-- AND absolute_x, 0x3D (R205). -/
  | andAbsoluteX (a : Word)
  /-- AND absolute_y, 0x39 (R205). -/
  | andAbsoluteY (a : Word)
  /-- AND indexed_indirect_x, 0x21 (R205). -/
  | andIndexedIndirectX (z : Byte)
  /-- AND indirect_indexed_y, 0x31 (R205). -/
  | andIndirectIndexedY (z : Byte)
  /-- AND zero_page_indirect, 0x32 (R205). -/
  | andZeroPageIndirect (z : Byte)
  /-- ORA immediate, 0x09 (R206). -/
  | oraImmediate (v : Byte)
  /-- ORA zero_page, 0x05 (R206). -/
  | oraZeroPage (z : Byte)
  /-- ORA zero_page_x, 0x15 (R206). -/
  | oraZeroPageX (z : Byte)
  /-- ORA absolute, 0x0D (R206). -/
  | oraAbsolute (a : Word)
  /-- ORA absolute_x, 0x1D (R206). -/
  | oraAbsoluteX (a : Word)
  /-- ORA absolute_y, 0x19 (R206). -/
  | oraAbsoluteY (a : Word)
  /-- ORA indexed_indirect_x, 0x01 (R206). -/
  | oraIndexedIndirectX (z : Byte)
  /-- ORA indirect_indexed_y, 0x11 (R206). -/
  | oraIndirectIndexedY (z : Byte)
  /-- ORA zero_page_indirect, 0x12 (R206). -/
  | oraZeroPageIndirect (z : Byte)
  /-- EOR immediate, 0x49 (R207). -/
  | eorImmediate (v : Byte)
  /-- EOR zero_page, 0x45 (R207). -/
  | eorZeroPage (z : Byte)
  /-- EOR zero_page_x, 0x55 (R207). -/
  | eorZeroPageX (z : Byte)
  /-- EOR absolute, 0x4D (R207). -/
  | eorAbsolute (a : Word)
  /-- EOR absolute_x, 0x5D (R207). -/
  | eorAbsoluteX (a : Word)
  /-- EOR absolute_y, 0x59 (R207). -/
  | eorAbsoluteY (a : Word)
  /-- EOR indexed_indirect_x, 0x41 (R207). -/
  | eorIndexedIndirectX (z : Byte)
  /-- EOR indirect_indexed_y, 0x51 (R207). -/
  | eorIndirectIndexedY (z : Byte)
  /-- EOR zero_page_indirect, 0x52 (R207). -/
  | eorZeroPageIndirect (z : Byte)
  /-- CMP immediate, 0xC9 (R209). -/
  | cmpImmediate (v : Byte)
  /-- CMP zero_page, 0xC5 (R209). -/
  | cmpZeroPage (z : Byte)
  /-- CMP zero_page_x, 0xD5 (R209). -/
  | cmpZeroPageX (z : Byte)
  /-- CMP absolute, 0xCD (R209). -/
  | cmpAbsolute (a : Word)
  /-- CMP absolute_x, 0xDD (R209). -/
  | cmpAbsoluteX (a : Word)
  /-- CMP absolute_y, 0xD9 (R209). -/
  | cmpAbsoluteY (a : Word)
  /-- CMP indexed_indirect_x, 0xC1 (R209). -/
  | cmpIndexedIndirectX (z : Byte)
  /-- CMP indirect_indexed_y, 0xD1 (R209). -/
  | cmpIndirectIndexedY (z : Byte)
  /-- CMP zero_page_indirect, 0xD2 (R209). -/
  | cmpZeroPageIndirect (z : Byte)
  /-- CPX immediate, 0xE0 (R210). -/
  | cpxImmediate (v : Byte)
  /-- CPX zero_page, 0xE4 (R210). -/
  | cpxZeroPage (z : Byte)
  /-- CPX absolute, 0xEC (R210). -/
  | cpxAbsolute (a : Word)
  /-- CPY immediate, 0xC0 (R211). -/
  | cpyImmediate (v : Byte)
  /-- CPY zero_page, 0xC4 (R211). -/
  | cpyZeroPage (z : Byte)
  /-- CPY absolute, 0xCC (R211). -/
  | cpyAbsolute (a : Word)
  /-- BIT zero_page, 0x24 (R212). -/
  | bitZeroPage (z : Byte)
  /-- BIT absolute, 0x2C (R212). -/
  | bitAbsolute (a : Word)
  /-- ASL accumulator, 0x0A (R231). -/
  | aslAccumulator
  /-- ASL zero_page, 0x06 (R231). -/
  | aslZeroPage (z : Byte)
  /-- ASL zero_page_x, 0x16 (R231). -/
  | aslZeroPageX (z : Byte)
  /-- ASL absolute, 0x0E (R231). -/
  | aslAbsolute (a : Word)
  /-- ASL absolute_x, 0x1E (R231). -/
  | aslAbsoluteX (a : Word)
  /-- LSR accumulator, 0x4A (R232). -/
  | lsrAccumulator
  /-- LSR zero_page, 0x46 (R232). -/
  | lsrZeroPage (z : Byte)
  /-- LSR zero_page_x, 0x56 (R232). -/
  | lsrZeroPageX (z : Byte)
  /-- LSR absolute, 0x4E (R232). -/
  | lsrAbsolute (a : Word)
  /-- LSR absolute_x, 0x5E (R232). -/
  | lsrAbsoluteX (a : Word)
  /-- ROL accumulator, 0x2A (R233). -/
  | rolAccumulator
  /-- ROL zero_page, 0x26 (R233). -/
  | rolZeroPage (z : Byte)
  /-- ROL zero_page_x, 0x36 (R233). -/
  | rolZeroPageX (z : Byte)
  /-- ROL absolute, 0x2E (R233). -/
  | rolAbsolute (a : Word)
  /-- ROL absolute_x, 0x3E (R233). -/
  | rolAbsoluteX (a : Word)
  /-- ROR accumulator, 0x6A (R234). -/
  | rorAccumulator
  /-- ROR zero_page, 0x66 (R234). -/
  | rorZeroPage (z : Byte)
  /-- ROR zero_page_x, 0x76 (R234). -/
  | rorZeroPageX (z : Byte)
  /-- ROR absolute, 0x6E (R234). -/
  | rorAbsolute (a : Word)
  /-- ROR absolute_x, 0x7E (R234). -/
  | rorAbsoluteX (a : Word)
  /-- INC zero_page, 0xE6 (R235). -/
  | incZeroPage (z : Byte)
  /-- INC zero_page_x, 0xF6 (R235). -/
  | incZeroPageX (z : Byte)
  /-- INC absolute, 0xEE (R235). -/
  | incAbsolute (a : Word)
  /-- INC absolute_x, 0xFE (R235). -/
  | incAbsoluteX (a : Word)
  /-- DEC zero_page, 0xC6 (R236). -/
  | decZeroPage (z : Byte)
  /-- DEC zero_page_x, 0xD6 (R236). -/
  | decZeroPageX (z : Byte)
  /-- DEC absolute, 0xCE (R236). -/
  | decAbsolute (a : Word)
  /-- DEC absolute_x, 0xDE (R236). -/
  | decAbsoluteX (a : Word)
  /-- INX implied, 0xE8 (R237). -/
  | inx
  /-- INY implied, 0xC8 (R238). -/
  | iny
  /-- DEX implied, 0xCA (R239). -/
  | dex
  /-- DEY implied, 0x88 (R240). -/
  | dey
  /-- INA accumulator, 0x1A (R241). -/
  | ina
  /-- DEA accumulator, 0x3A (R242). -/
  | dea
  /-- BCC relative, 0x90 (R261). -/
  | bcc (r : Byte)
  /-- BCS relative, 0xB0 (R262). -/
  | bcs (r : Byte)
  /-- BEQ relative, 0xF0 (R263). -/
  | beq (r : Byte)
  /-- BMI relative, 0x30 (R264). -/
  | bmi (r : Byte)
  /-- BNE relative, 0xD0 (R265). -/
  | bne (r : Byte)
  /-- BPL relative, 0x10 (R266). -/
  | bpl (r : Byte)
  /-- BVC relative, 0x50 (R267). -/
  | bvc (r : Byte)
  /-- BVS relative, 0x70 (R268). -/
  | bvs (r : Byte)
  /-- BRA relative, 0x80 (R269). -/
  | bra (r : Byte)
  /-- JMP absolute, 0x4C (R270). -/
  | jmpAbsolute (a : Word)
  /-- JMP indirect, 0x6C (R270). -/
  | jmpIndirect (p : Word)
  /-- JSR absolute, 0x20 (R271). -/
  | jsr (a : Word)
  /-- RTS implied, 0x60 (R272). -/
  | rts
  /-- RTI implied, 0x40 (R273). -/
  | rti
  /-- BRK implied, 0x00 (R274). -/
  | brk
  /-- PHA implied, 0x48 (R290). -/
  | pha
  /-- PHP implied, 0x08 (R291). -/
  | php
  /-- PHX implied, 0xDA (R292). -/
  | phx
  /-- PHY implied, 0x5A (R293). -/
  | phy
  /-- PLA implied, 0x68 (R294). -/
  | pla
  /-- PLP implied, 0x28 (R295). -/
  | plp
  /-- PLX implied, 0xFA (R296). -/
  | plx
  /-- PLY implied, 0x7A (R297). -/
  | ply
  /-- CLC implied, 0x18 (R298). -/
  | clc
  /-- SEC implied, 0x38 (R299). -/
  | sec
  /-- CLI implied, 0x58 (R300). -/
  | cli
  /-- SEI implied, 0x78 (R301). -/
  | sei
  /-- CLD implied, 0xD8 (R302). -/
  | cld
  /-- SED implied, 0xF8 (R303). -/
  | sed
  /-- CLV implied, 0xB8 (R304). -/
  | clv
  /-- NOP implied, 0xEA (R305). -/
  | nop
  deriving DecidableEq, Repr

end Sys2Proof
end

