-- ==== Sys2Proof/WellFormed.lean ====
section
/-! DEFINITION. The addressing modes (30_encoding.md R90), the mode of each instruction (R96), and which instructions the
machine has under a setting of the parameter ZPI_OPS (R98). -/

namespace Sys2Proof

/-- The fourteen addressing modes of R90. -/
inductive Mode where
  | implied | accumulator | immediate | zeroPage | zeroPageX | zeroPageY | zeroPageIndirect | indexedIndirectX
  | indirectIndexedY | relative | absolute | absoluteX | absoluteY | indirect
  deriving DecidableEq, Repr

/-- The addressing mode of each instruction (R96). -/
def Instr.mode : Instr → Mode
  | .tax | .tay | .txa | .tya | .tsx | .txs | .inx | .iny | .dex | .dey | .rts | .rti | .brk | .pha | .php | .phx
  | .phy | .pla | .plp | .plx | .ply | .clc | .sec | .cli | .sei | .cld | .sed | .clv | .nop => .implied
  | .aslAccumulator | .lsrAccumulator | .rolAccumulator | .rorAccumulator | .ina | .dea => .accumulator
  | .ldaImmediate _ | .ldxImmediate _ | .ldyImmediate _ | .adcImmediate _ | .sbcImmediate _ | .andImmediate _
  | .oraImmediate _ | .eorImmediate _ | .cmpImmediate _ | .cpxImmediate _ | .cpyImmediate _ => .immediate
  | .ldaZeroPage _ | .ldxZeroPage _ | .ldyZeroPage _ | .staZeroPage _ | .stxZeroPage _ | .styZeroPage _
  | .stzZeroPage _ | .adcZeroPage _ | .sbcZeroPage _ | .andZeroPage _ | .oraZeroPage _ | .eorZeroPage _
  | .cmpZeroPage _ | .cpxZeroPage _ | .cpyZeroPage _ | .bitZeroPage _ | .aslZeroPage _ | .lsrZeroPage _
  | .rolZeroPage _ | .rorZeroPage _ | .incZeroPage _ | .decZeroPage _ => .zeroPage
  | .ldaZeroPageX _ | .ldyZeroPageX _ | .staZeroPageX _ | .styZeroPageX _ | .stzZeroPageX _ | .adcZeroPageX _
  | .sbcZeroPageX _ | .andZeroPageX _ | .oraZeroPageX _ | .eorZeroPageX _ | .cmpZeroPageX _ | .aslZeroPageX _
  | .lsrZeroPageX _ | .rolZeroPageX _ | .rorZeroPageX _ | .incZeroPageX _ | .decZeroPageX _ => .zeroPageX
  | .ldxZeroPageY _ | .stxZeroPageY _ => .zeroPageY
  | .ldaAbsolute _ | .ldxAbsolute _ | .ldyAbsolute _ | .staAbsolute _ | .stxAbsolute _ | .styAbsolute _
  | .stzAbsolute _ | .adcAbsolute _ | .sbcAbsolute _ | .andAbsolute _ | .oraAbsolute _ | .eorAbsolute _
  | .cmpAbsolute _ | .cpxAbsolute _ | .cpyAbsolute _ | .bitAbsolute _ | .aslAbsolute _ | .lsrAbsolute _
  | .rolAbsolute _ | .rorAbsolute _ | .incAbsolute _ | .decAbsolute _ | .jmpAbsolute _ | .jsr _ => .absolute
  | .ldaAbsoluteX _ | .ldyAbsoluteX _ | .staAbsoluteX _ | .stzAbsoluteX _ | .adcAbsoluteX _ | .sbcAbsoluteX _
  | .andAbsoluteX _ | .oraAbsoluteX _ | .eorAbsoluteX _ | .cmpAbsoluteX _ | .aslAbsoluteX _ | .lsrAbsoluteX _
  | .rolAbsoluteX _ | .rorAbsoluteX _ | .incAbsoluteX _ | .decAbsoluteX _ => .absoluteX
  | .ldaAbsoluteY _ | .ldxAbsoluteY _ | .staAbsoluteY _ | .adcAbsoluteY _ | .sbcAbsoluteY _ | .andAbsoluteY _
  | .oraAbsoluteY _ | .eorAbsoluteY _ | .cmpAbsoluteY _ => .absoluteY
  | .jmpIndirect _ => .indirect
  | .ldaIndexedIndirectX _ | .staIndexedIndirectX _ | .adcIndexedIndirectX _ | .sbcIndexedIndirectX _
  | .andIndexedIndirectX _ | .oraIndexedIndirectX _ | .eorIndexedIndirectX _ | .cmpIndexedIndirectX _ => .indexedIndirectX
  | .ldaIndirectIndexedY _ | .staIndirectIndexedY _ | .adcIndirectIndexedY _ | .sbcIndirectIndexedY _
  | .andIndirectIndexedY _ | .oraIndirectIndexedY _ | .eorIndirectIndexedY _ | .cmpIndirectIndexedY _ => .indirectIndexedY
  | .ldaZeroPageIndirect _ | .staZeroPageIndirect _ | .adcZeroPageIndirect _ | .sbcZeroPageIndirect _
  | .andZeroPageIndirect _ | .oraZeroPageIndirect _ | .eorZeroPageIndirect _ | .cmpZeroPageIndirect _ => .zeroPageIndirect
  | .bcc _ | .bcs _ | .beq _ | .bmi _ | .bne _ | .bpl _ | .bvc _ | .bvs _ | .bra _ => .relative

/-- R98: the eight zero_page_indirect instructions exist only with ZPI_OPS = true; every other instruction always exists.
Every operand at every value is allowed (R90, R93: no operand byte is reserved). -/
def Instr.wellFormed (zpiOps : Bool) (i : Instr) : Bool :=
  zpiOps || i.mode != .zeroPageIndirect

end Sys2Proof
end

