-- ==== Sys2Proof/Decode.lean ====
section
/-! DEFINITION. Decoding and encoding (30_encoding.md R90 to R101): the opcode map of R95, the decoder that takes a list of
bytes and gives the instruction and the bytes after it, the encoder, and the host's decodeTableWord.
The opcode bytes other than 0xA9 and 0x00 and every base cycle count other than LDA immediate's are the spec's general
knowledge (G1, G3): PRESUMED, log 13. -/

namespace Sys2Proof

/-- The number of operand bytes of a mode (R90). -/
def operandLength : Mode → Nat
  | .implied | .accumulator => 0
  | .immediate | .zeroPage | .zeroPageX | .zeroPageY | .zeroPageIndirect | .indexedIndirectX | .indirectIndexedY
  | .relative => 1
  | .absolute | .absoluteX | .absoluteY | .indirect => 2

/-- `hi ++ lo`: the 16-bit value with high byte `hi` and low byte `lo` (R10). -/
def wordOf (hi lo : Byte) : Word := hi ++ lo

/-- `w[7:0]`. -/
def lowByte (w : Word) : Byte := w.extractLsb' 0 8

/-- `w[15:8]`. -/
def highByte (w : Word) : Byte := w.extractLsb' 8 8

/-- One entry of the opcode map (R94: mnemonic × addressing mode × base cycles), with the constructor of its instructions:
`make lo hi` is the instruction whose operand bytes are `lo` and then `hi`, as many of them as the mode has. -/
structure Row where
  opcode : Byte
  mnemonic : String
  mode : Mode
  base : Nat
  make : Byte → Byte → Instr

/-- The opcode map of R95, by the high nibble of the opcode byte. A byte that no row names is undefined (R97). -/
def rowsAt : Nat → List Row
  | 0 => [
    ⟨0x00, "BRK", .implied, 7, fun _ _ => .brk⟩,
    ⟨0x01, "ORA", .indexedIndirectX, 6, fun lo _ => .oraIndexedIndirectX lo⟩,
    ⟨0x05, "ORA", .zeroPage, 3, fun lo _ => .oraZeroPage lo⟩,
    ⟨0x06, "ASL", .zeroPage, 5, fun lo _ => .aslZeroPage lo⟩,
    ⟨0x08, "PHP", .implied, 3, fun _ _ => .php⟩,
    ⟨0x09, "ORA", .immediate, 2, fun lo _ => .oraImmediate lo⟩,
    ⟨0x0A, "ASL", .accumulator, 2, fun _ _ => .aslAccumulator⟩,
    ⟨0x0D, "ORA", .absolute, 4, fun lo hi => .oraAbsolute (wordOf hi lo)⟩,
    ⟨0x0E, "ASL", .absolute, 6, fun lo hi => .aslAbsolute (wordOf hi lo)⟩]
  | 1 => [
    ⟨0x10, "BPL", .relative, 2, fun lo _ => .bpl lo⟩,
    ⟨0x11, "ORA", .indirectIndexedY, 5, fun lo _ => .oraIndirectIndexedY lo⟩,
    ⟨0x12, "ORA", .zeroPageIndirect, 5, fun lo _ => .oraZeroPageIndirect lo⟩,
    ⟨0x15, "ORA", .zeroPageX, 4, fun lo _ => .oraZeroPageX lo⟩,
    ⟨0x16, "ASL", .zeroPageX, 6, fun lo _ => .aslZeroPageX lo⟩,
    ⟨0x18, "CLC", .implied, 2, fun _ _ => .clc⟩,
    ⟨0x19, "ORA", .absoluteY, 4, fun lo hi => .oraAbsoluteY (wordOf hi lo)⟩,
    ⟨0x1A, "INA", .accumulator, 2, fun _ _ => .ina⟩,
    ⟨0x1D, "ORA", .absoluteX, 4, fun lo hi => .oraAbsoluteX (wordOf hi lo)⟩,
    ⟨0x1E, "ASL", .absoluteX, 7, fun lo hi => .aslAbsoluteX (wordOf hi lo)⟩]
  | 2 => [
    ⟨0x20, "JSR", .absolute, 6, fun lo hi => .jsr (wordOf hi lo)⟩,
    ⟨0x21, "AND", .indexedIndirectX, 6, fun lo _ => .andIndexedIndirectX lo⟩,
    ⟨0x24, "BIT", .zeroPage, 3, fun lo _ => .bitZeroPage lo⟩,
    ⟨0x25, "AND", .zeroPage, 3, fun lo _ => .andZeroPage lo⟩,
    ⟨0x26, "ROL", .zeroPage, 5, fun lo _ => .rolZeroPage lo⟩,
    ⟨0x28, "PLP", .implied, 4, fun _ _ => .plp⟩,
    ⟨0x29, "AND", .immediate, 2, fun lo _ => .andImmediate lo⟩,
    ⟨0x2A, "ROL", .accumulator, 2, fun _ _ => .rolAccumulator⟩,
    ⟨0x2C, "BIT", .absolute, 4, fun lo hi => .bitAbsolute (wordOf hi lo)⟩,
    ⟨0x2D, "AND", .absolute, 4, fun lo hi => .andAbsolute (wordOf hi lo)⟩,
    ⟨0x2E, "ROL", .absolute, 6, fun lo hi => .rolAbsolute (wordOf hi lo)⟩]
  | 3 => [
    ⟨0x30, "BMI", .relative, 2, fun lo _ => .bmi lo⟩,
    ⟨0x31, "AND", .indirectIndexedY, 5, fun lo _ => .andIndirectIndexedY lo⟩,
    ⟨0x32, "AND", .zeroPageIndirect, 5, fun lo _ => .andZeroPageIndirect lo⟩,
    ⟨0x35, "AND", .zeroPageX, 4, fun lo _ => .andZeroPageX lo⟩,
    ⟨0x36, "ROL", .zeroPageX, 6, fun lo _ => .rolZeroPageX lo⟩,
    ⟨0x38, "SEC", .implied, 2, fun _ _ => .sec⟩,
    ⟨0x39, "AND", .absoluteY, 4, fun lo hi => .andAbsoluteY (wordOf hi lo)⟩,
    ⟨0x3A, "DEA", .accumulator, 2, fun _ _ => .dea⟩,
    ⟨0x3D, "AND", .absoluteX, 4, fun lo hi => .andAbsoluteX (wordOf hi lo)⟩,
    ⟨0x3E, "ROL", .absoluteX, 7, fun lo hi => .rolAbsoluteX (wordOf hi lo)⟩]
  | 4 => [
    ⟨0x40, "RTI", .implied, 6, fun _ _ => .rti⟩,
    ⟨0x41, "EOR", .indexedIndirectX, 6, fun lo _ => .eorIndexedIndirectX lo⟩,
    ⟨0x45, "EOR", .zeroPage, 3, fun lo _ => .eorZeroPage lo⟩,
    ⟨0x46, "LSR", .zeroPage, 5, fun lo _ => .lsrZeroPage lo⟩,
    ⟨0x48, "PHA", .implied, 3, fun _ _ => .pha⟩,
    ⟨0x49, "EOR", .immediate, 2, fun lo _ => .eorImmediate lo⟩,
    ⟨0x4A, "LSR", .accumulator, 2, fun _ _ => .lsrAccumulator⟩,
    ⟨0x4C, "JMP", .absolute, 3, fun lo hi => .jmpAbsolute (wordOf hi lo)⟩,
    ⟨0x4D, "EOR", .absolute, 4, fun lo hi => .eorAbsolute (wordOf hi lo)⟩,
    ⟨0x4E, "LSR", .absolute, 6, fun lo hi => .lsrAbsolute (wordOf hi lo)⟩]
  | 5 => [
    ⟨0x50, "BVC", .relative, 2, fun lo _ => .bvc lo⟩,
    ⟨0x51, "EOR", .indirectIndexedY, 5, fun lo _ => .eorIndirectIndexedY lo⟩,
    ⟨0x52, "EOR", .zeroPageIndirect, 5, fun lo _ => .eorZeroPageIndirect lo⟩,
    ⟨0x55, "EOR", .zeroPageX, 4, fun lo _ => .eorZeroPageX lo⟩,
    ⟨0x56, "LSR", .zeroPageX, 6, fun lo _ => .lsrZeroPageX lo⟩,
    ⟨0x58, "CLI", .implied, 2, fun _ _ => .cli⟩,
    ⟨0x59, "EOR", .absoluteY, 4, fun lo hi => .eorAbsoluteY (wordOf hi lo)⟩,
    ⟨0x5A, "PHY", .implied, 3, fun _ _ => .phy⟩,
    ⟨0x5D, "EOR", .absoluteX, 4, fun lo hi => .eorAbsoluteX (wordOf hi lo)⟩,
    ⟨0x5E, "LSR", .absoluteX, 7, fun lo hi => .lsrAbsoluteX (wordOf hi lo)⟩]
  | 6 => [
    ⟨0x60, "RTS", .implied, 6, fun _ _ => .rts⟩,
    ⟨0x61, "ADC", .indexedIndirectX, 6, fun lo _ => .adcIndexedIndirectX lo⟩,
    ⟨0x64, "STZ", .zeroPage, 3, fun lo _ => .stzZeroPage lo⟩,
    ⟨0x65, "ADC", .zeroPage, 3, fun lo _ => .adcZeroPage lo⟩,
    ⟨0x66, "ROR", .zeroPage, 5, fun lo _ => .rorZeroPage lo⟩,
    ⟨0x68, "PLA", .implied, 4, fun _ _ => .pla⟩,
    ⟨0x69, "ADC", .immediate, 2, fun lo _ => .adcImmediate lo⟩,
    ⟨0x6A, "ROR", .accumulator, 2, fun _ _ => .rorAccumulator⟩,
    ⟨0x6C, "JMP", .indirect, 5, fun lo hi => .jmpIndirect (wordOf hi lo)⟩,
    ⟨0x6D, "ADC", .absolute, 4, fun lo hi => .adcAbsolute (wordOf hi lo)⟩,
    ⟨0x6E, "ROR", .absolute, 6, fun lo hi => .rorAbsolute (wordOf hi lo)⟩]
  | 7 => [
    ⟨0x70, "BVS", .relative, 2, fun lo _ => .bvs lo⟩,
    ⟨0x71, "ADC", .indirectIndexedY, 5, fun lo _ => .adcIndirectIndexedY lo⟩,
    ⟨0x72, "ADC", .zeroPageIndirect, 5, fun lo _ => .adcZeroPageIndirect lo⟩,
    ⟨0x74, "STZ", .zeroPageX, 4, fun lo _ => .stzZeroPageX lo⟩,
    ⟨0x75, "ADC", .zeroPageX, 4, fun lo _ => .adcZeroPageX lo⟩,
    ⟨0x76, "ROR", .zeroPageX, 6, fun lo _ => .rorZeroPageX lo⟩,
    ⟨0x78, "SEI", .implied, 2, fun _ _ => .sei⟩,
    ⟨0x79, "ADC", .absoluteY, 4, fun lo hi => .adcAbsoluteY (wordOf hi lo)⟩,
    ⟨0x7A, "PLY", .implied, 4, fun _ _ => .ply⟩,
    ⟨0x7D, "ADC", .absoluteX, 4, fun lo hi => .adcAbsoluteX (wordOf hi lo)⟩,
    ⟨0x7E, "ROR", .absoluteX, 7, fun lo hi => .rorAbsoluteX (wordOf hi lo)⟩]
  | 8 => [
    ⟨0x80, "BRA", .relative, 2, fun lo _ => .bra lo⟩,
    ⟨0x81, "STA", .indexedIndirectX, 6, fun lo _ => .staIndexedIndirectX lo⟩,
    ⟨0x84, "STY", .zeroPage, 3, fun lo _ => .styZeroPage lo⟩,
    ⟨0x85, "STA", .zeroPage, 3, fun lo _ => .staZeroPage lo⟩,
    ⟨0x86, "STX", .zeroPage, 3, fun lo _ => .stxZeroPage lo⟩,
    ⟨0x88, "DEY", .implied, 2, fun _ _ => .dey⟩,
    ⟨0x8A, "TXA", .implied, 2, fun _ _ => .txa⟩,
    ⟨0x8C, "STY", .absolute, 4, fun lo hi => .styAbsolute (wordOf hi lo)⟩,
    ⟨0x8D, "STA", .absolute, 4, fun lo hi => .staAbsolute (wordOf hi lo)⟩,
    ⟨0x8E, "STX", .absolute, 4, fun lo hi => .stxAbsolute (wordOf hi lo)⟩]
  | 9 => [
    ⟨0x90, "BCC", .relative, 2, fun lo _ => .bcc lo⟩,
    ⟨0x91, "STA", .indirectIndexedY, 6, fun lo _ => .staIndirectIndexedY lo⟩,
    ⟨0x92, "STA", .zeroPageIndirect, 5, fun lo _ => .staZeroPageIndirect lo⟩,
    ⟨0x94, "STY", .zeroPageX, 4, fun lo _ => .styZeroPageX lo⟩,
    ⟨0x95, "STA", .zeroPageX, 4, fun lo _ => .staZeroPageX lo⟩,
    ⟨0x96, "STX", .zeroPageY, 4, fun lo _ => .stxZeroPageY lo⟩,
    ⟨0x98, "TYA", .implied, 2, fun _ _ => .tya⟩,
    ⟨0x99, "STA", .absoluteY, 5, fun lo hi => .staAbsoluteY (wordOf hi lo)⟩,
    ⟨0x9A, "TXS", .implied, 2, fun _ _ => .txs⟩,
    ⟨0x9C, "STZ", .absolute, 4, fun lo hi => .stzAbsolute (wordOf hi lo)⟩,
    ⟨0x9D, "STA", .absoluteX, 5, fun lo hi => .staAbsoluteX (wordOf hi lo)⟩,
    ⟨0x9E, "STZ", .absoluteX, 5, fun lo hi => .stzAbsoluteX (wordOf hi lo)⟩]
  | 10 => [
    ⟨0xA0, "LDY", .immediate, 2, fun lo _ => .ldyImmediate lo⟩,
    ⟨0xA1, "LDA", .indexedIndirectX, 6, fun lo _ => .ldaIndexedIndirectX lo⟩,
    ⟨0xA2, "LDX", .immediate, 2, fun lo _ => .ldxImmediate lo⟩,
    ⟨0xA4, "LDY", .zeroPage, 3, fun lo _ => .ldyZeroPage lo⟩,
    ⟨0xA5, "LDA", .zeroPage, 3, fun lo _ => .ldaZeroPage lo⟩,
    ⟨0xA6, "LDX", .zeroPage, 3, fun lo _ => .ldxZeroPage lo⟩,
    ⟨0xA8, "TAY", .implied, 2, fun _ _ => .tay⟩,
    ⟨0xA9, "LDA", .immediate, 2, fun lo _ => .ldaImmediate lo⟩,
    ⟨0xAA, "TAX", .implied, 2, fun _ _ => .tax⟩,
    ⟨0xAC, "LDY", .absolute, 4, fun lo hi => .ldyAbsolute (wordOf hi lo)⟩,
    ⟨0xAD, "LDA", .absolute, 4, fun lo hi => .ldaAbsolute (wordOf hi lo)⟩,
    ⟨0xAE, "LDX", .absolute, 4, fun lo hi => .ldxAbsolute (wordOf hi lo)⟩]
  | 11 => [
    ⟨0xB0, "BCS", .relative, 2, fun lo _ => .bcs lo⟩,
    ⟨0xB1, "LDA", .indirectIndexedY, 5, fun lo _ => .ldaIndirectIndexedY lo⟩,
    ⟨0xB2, "LDA", .zeroPageIndirect, 5, fun lo _ => .ldaZeroPageIndirect lo⟩,
    ⟨0xB4, "LDY", .zeroPageX, 4, fun lo _ => .ldyZeroPageX lo⟩,
    ⟨0xB5, "LDA", .zeroPageX, 4, fun lo _ => .ldaZeroPageX lo⟩,
    ⟨0xB6, "LDX", .zeroPageY, 4, fun lo _ => .ldxZeroPageY lo⟩,
    ⟨0xB8, "CLV", .implied, 2, fun _ _ => .clv⟩,
    ⟨0xB9, "LDA", .absoluteY, 4, fun lo hi => .ldaAbsoluteY (wordOf hi lo)⟩,
    ⟨0xBA, "TSX", .implied, 2, fun _ _ => .tsx⟩,
    ⟨0xBC, "LDY", .absoluteX, 4, fun lo hi => .ldyAbsoluteX (wordOf hi lo)⟩,
    ⟨0xBD, "LDA", .absoluteX, 4, fun lo hi => .ldaAbsoluteX (wordOf hi lo)⟩,
    ⟨0xBE, "LDX", .absoluteY, 4, fun lo hi => .ldxAbsoluteY (wordOf hi lo)⟩]
  | 12 => [
    ⟨0xC0, "CPY", .immediate, 2, fun lo _ => .cpyImmediate lo⟩,
    ⟨0xC1, "CMP", .indexedIndirectX, 6, fun lo _ => .cmpIndexedIndirectX lo⟩,
    ⟨0xC4, "CPY", .zeroPage, 3, fun lo _ => .cpyZeroPage lo⟩,
    ⟨0xC5, "CMP", .zeroPage, 3, fun lo _ => .cmpZeroPage lo⟩,
    ⟨0xC6, "DEC", .zeroPage, 5, fun lo _ => .decZeroPage lo⟩,
    ⟨0xC8, "INY", .implied, 2, fun _ _ => .iny⟩,
    ⟨0xC9, "CMP", .immediate, 2, fun lo _ => .cmpImmediate lo⟩,
    ⟨0xCA, "DEX", .implied, 2, fun _ _ => .dex⟩,
    ⟨0xCC, "CPY", .absolute, 4, fun lo hi => .cpyAbsolute (wordOf hi lo)⟩,
    ⟨0xCD, "CMP", .absolute, 4, fun lo hi => .cmpAbsolute (wordOf hi lo)⟩,
    ⟨0xCE, "DEC", .absolute, 6, fun lo hi => .decAbsolute (wordOf hi lo)⟩]
  | 13 => [
    ⟨0xD0, "BNE", .relative, 2, fun lo _ => .bne lo⟩,
    ⟨0xD1, "CMP", .indirectIndexedY, 5, fun lo _ => .cmpIndirectIndexedY lo⟩,
    ⟨0xD2, "CMP", .zeroPageIndirect, 5, fun lo _ => .cmpZeroPageIndirect lo⟩,
    ⟨0xD5, "CMP", .zeroPageX, 4, fun lo _ => .cmpZeroPageX lo⟩,
    ⟨0xD6, "DEC", .zeroPageX, 6, fun lo _ => .decZeroPageX lo⟩,
    ⟨0xD8, "CLD", .implied, 2, fun _ _ => .cld⟩,
    ⟨0xD9, "CMP", .absoluteY, 4, fun lo hi => .cmpAbsoluteY (wordOf hi lo)⟩,
    ⟨0xDA, "PHX", .implied, 3, fun _ _ => .phx⟩,
    ⟨0xDD, "CMP", .absoluteX, 4, fun lo hi => .cmpAbsoluteX (wordOf hi lo)⟩,
    ⟨0xDE, "DEC", .absoluteX, 7, fun lo hi => .decAbsoluteX (wordOf hi lo)⟩]
  | 14 => [
    ⟨0xE0, "CPX", .immediate, 2, fun lo _ => .cpxImmediate lo⟩,
    ⟨0xE1, "SBC", .indexedIndirectX, 6, fun lo _ => .sbcIndexedIndirectX lo⟩,
    ⟨0xE4, "CPX", .zeroPage, 3, fun lo _ => .cpxZeroPage lo⟩,
    ⟨0xE5, "SBC", .zeroPage, 3, fun lo _ => .sbcZeroPage lo⟩,
    ⟨0xE6, "INC", .zeroPage, 5, fun lo _ => .incZeroPage lo⟩,
    ⟨0xE8, "INX", .implied, 2, fun _ _ => .inx⟩,
    ⟨0xE9, "SBC", .immediate, 2, fun lo _ => .sbcImmediate lo⟩,
    ⟨0xEA, "NOP", .implied, 2, fun _ _ => .nop⟩,
    ⟨0xEC, "CPX", .absolute, 4, fun lo hi => .cpxAbsolute (wordOf hi lo)⟩,
    ⟨0xED, "SBC", .absolute, 4, fun lo hi => .sbcAbsolute (wordOf hi lo)⟩,
    ⟨0xEE, "INC", .absolute, 6, fun lo hi => .incAbsolute (wordOf hi lo)⟩]
  | 15 => [
    ⟨0xF0, "BEQ", .relative, 2, fun lo _ => .beq lo⟩,
    ⟨0xF1, "SBC", .indirectIndexedY, 5, fun lo _ => .sbcIndirectIndexedY lo⟩,
    ⟨0xF2, "SBC", .zeroPageIndirect, 5, fun lo _ => .sbcZeroPageIndirect lo⟩,
    ⟨0xF5, "SBC", .zeroPageX, 4, fun lo _ => .sbcZeroPageX lo⟩,
    ⟨0xF6, "INC", .zeroPageX, 6, fun lo _ => .incZeroPageX lo⟩,
    ⟨0xF8, "SED", .implied, 2, fun _ _ => .sed⟩,
    ⟨0xF9, "SBC", .absoluteY, 4, fun lo hi => .sbcAbsoluteY (wordOf hi lo)⟩,
    ⟨0xFA, "PLX", .implied, 4, fun _ _ => .plx⟩,
    ⟨0xFD, "SBC", .absoluteX, 4, fun lo hi => .sbcAbsoluteX (wordOf hi lo)⟩,
    ⟨0xFE, "INC", .absoluteX, 7, fun lo hi => .incAbsoluteX (wordOf hi lo)⟩]
  | _ => []

/-- The 170 rows of the opcode map in the order of their opcode bytes (R95). -/
def rows : List Row := (List.range 16).flatMap rowsAt

/-- The row of an opcode byte, if it has one: the direct lookup of R94. -/
def findRow (op : Byte) : Option Row := (rowsAt (op.toNat / 16)).find? (fun r => r.opcode == op)

/-- The decoder's table entry for an opcode byte under a setting of ZPI_OPS (R94, R97, R98). -/
def decodeOpcode (zpiOps : Bool) (op : Byte) : Option Row :=
  match findRow op with
  | some r => if !zpiOps && r.mode == .zeroPageIndirect then none else some r
  | none => none

/-- What the decoder makes of a list of bytes: an instruction and the bytes after it; an opcode byte without an entry
(R97, a DecodeError of the step); or a list that ends inside the instruction (memory never does). -/
inductive Decoded where
  | instr (i : Instr) (rest : List Byte)
  | undefinedOpcode (op : Byte)
  | truncated
  deriving DecidableEq, Repr

/-- Decode one instruction from the front of a list of bytes. The opcode byte alone fixes the length (R101), and 16-bit
operands come low byte first (R92). -/
def decode (zpiOps : Bool) : List Byte → Decoded
  | [] => .truncated
  | op :: rest =>
    match decodeOpcode zpiOps op with
    | none => .undefinedOpcode op
    | some r =>
      match operandLength r.mode, rest with
      | 0, rest => .instr (r.make 0 0) rest
      | 1, lo :: rest => .instr (r.make lo 0) rest
      | 2, lo :: hi :: rest => .instr (r.make lo hi) rest
      | _, _ => .truncated

/-- The decoded instruction, if there is one. -/
def Decoded.instr? : Decoded → Option Instr
  | .instr i _ => some i
  | .undefinedOpcode _ | .truncated => none

/-- The bytes of an instruction in the order they stand in memory (R90, R92, R96). -/
def encode : Instr → List Byte
  | .ldaImmediate v => [0xA9, v]
  | .ldaZeroPage z => [0xA5, z]
  | .ldaZeroPageX z => [0xB5, z]
  | .ldaAbsolute a => [0xAD, lowByte a, highByte a]
  | .ldaAbsoluteX a => [0xBD, lowByte a, highByte a]
  | .ldaAbsoluteY a => [0xB9, lowByte a, highByte a]
  | .ldaIndexedIndirectX z => [0xA1, z]
  | .ldaIndirectIndexedY z => [0xB1, z]
  | .ldaZeroPageIndirect z => [0xB2, z]
  | .ldxImmediate v => [0xA2, v]
  | .ldxZeroPage z => [0xA6, z]
  | .ldxZeroPageY z => [0xB6, z]
  | .ldxAbsolute a => [0xAE, lowByte a, highByte a]
  | .ldxAbsoluteY a => [0xBE, lowByte a, highByte a]
  | .ldyImmediate v => [0xA0, v]
  | .ldyZeroPage z => [0xA4, z]
  | .ldyZeroPageX z => [0xB4, z]
  | .ldyAbsolute a => [0xAC, lowByte a, highByte a]
  | .ldyAbsoluteX a => [0xBC, lowByte a, highByte a]
  | .staZeroPage z => [0x85, z]
  | .staZeroPageX z => [0x95, z]
  | .staAbsolute a => [0x8D, lowByte a, highByte a]
  | .staAbsoluteX a => [0x9D, lowByte a, highByte a]
  | .staAbsoluteY a => [0x99, lowByte a, highByte a]
  | .staIndexedIndirectX z => [0x81, z]
  | .staIndirectIndexedY z => [0x91, z]
  | .staZeroPageIndirect z => [0x92, z]
  | .stxZeroPage z => [0x86, z]
  | .stxZeroPageY z => [0x96, z]
  | .stxAbsolute a => [0x8E, lowByte a, highByte a]
  | .styZeroPage z => [0x84, z]
  | .styZeroPageX z => [0x94, z]
  | .styAbsolute a => [0x8C, lowByte a, highByte a]
  | .stzZeroPage z => [0x64, z]
  | .stzZeroPageX z => [0x74, z]
  | .stzAbsolute a => [0x9C, lowByte a, highByte a]
  | .stzAbsoluteX a => [0x9E, lowByte a, highByte a]
  | .tax => [0xAA]
  | .tay => [0xA8]
  | .txa => [0x8A]
  | .tya => [0x98]
  | .tsx => [0xBA]
  | .txs => [0x9A]
  | .adcImmediate v => [0x69, v]
  | .adcZeroPage z => [0x65, z]
  | .adcZeroPageX z => [0x75, z]
  | .adcAbsolute a => [0x6D, lowByte a, highByte a]
  | .adcAbsoluteX a => [0x7D, lowByte a, highByte a]
  | .adcAbsoluteY a => [0x79, lowByte a, highByte a]
  | .adcIndexedIndirectX z => [0x61, z]
  | .adcIndirectIndexedY z => [0x71, z]
  | .adcZeroPageIndirect z => [0x72, z]
  | .sbcImmediate v => [0xE9, v]
  | .sbcZeroPage z => [0xE5, z]
  | .sbcZeroPageX z => [0xF5, z]
  | .sbcAbsolute a => [0xED, lowByte a, highByte a]
  | .sbcAbsoluteX a => [0xFD, lowByte a, highByte a]
  | .sbcAbsoluteY a => [0xF9, lowByte a, highByte a]
  | .sbcIndexedIndirectX z => [0xE1, z]
  | .sbcIndirectIndexedY z => [0xF1, z]
  | .sbcZeroPageIndirect z => [0xF2, z]
  | .andImmediate v => [0x29, v]
  | .andZeroPage z => [0x25, z]
  | .andZeroPageX z => [0x35, z]
  | .andAbsolute a => [0x2D, lowByte a, highByte a]
  | .andAbsoluteX a => [0x3D, lowByte a, highByte a]
  | .andAbsoluteY a => [0x39, lowByte a, highByte a]
  | .andIndexedIndirectX z => [0x21, z]
  | .andIndirectIndexedY z => [0x31, z]
  | .andZeroPageIndirect z => [0x32, z]
  | .oraImmediate v => [0x09, v]
  | .oraZeroPage z => [0x05, z]
  | .oraZeroPageX z => [0x15, z]
  | .oraAbsolute a => [0x0D, lowByte a, highByte a]
  | .oraAbsoluteX a => [0x1D, lowByte a, highByte a]
  | .oraAbsoluteY a => [0x19, lowByte a, highByte a]
  | .oraIndexedIndirectX z => [0x01, z]
  | .oraIndirectIndexedY z => [0x11, z]
  | .oraZeroPageIndirect z => [0x12, z]
  | .eorImmediate v => [0x49, v]
  | .eorZeroPage z => [0x45, z]
  | .eorZeroPageX z => [0x55, z]
  | .eorAbsolute a => [0x4D, lowByte a, highByte a]
  | .eorAbsoluteX a => [0x5D, lowByte a, highByte a]
  | .eorAbsoluteY a => [0x59, lowByte a, highByte a]
  | .eorIndexedIndirectX z => [0x41, z]
  | .eorIndirectIndexedY z => [0x51, z]
  | .eorZeroPageIndirect z => [0x52, z]
  | .cmpImmediate v => [0xC9, v]
  | .cmpZeroPage z => [0xC5, z]
  | .cmpZeroPageX z => [0xD5, z]
  | .cmpAbsolute a => [0xCD, lowByte a, highByte a]
  | .cmpAbsoluteX a => [0xDD, lowByte a, highByte a]
  | .cmpAbsoluteY a => [0xD9, lowByte a, highByte a]
  | .cmpIndexedIndirectX z => [0xC1, z]
  | .cmpIndirectIndexedY z => [0xD1, z]
  | .cmpZeroPageIndirect z => [0xD2, z]
  | .cpxImmediate v => [0xE0, v]
  | .cpxZeroPage z => [0xE4, z]
  | .cpxAbsolute a => [0xEC, lowByte a, highByte a]
  | .cpyImmediate v => [0xC0, v]
  | .cpyZeroPage z => [0xC4, z]
  | .cpyAbsolute a => [0xCC, lowByte a, highByte a]
  | .bitZeroPage z => [0x24, z]
  | .bitAbsolute a => [0x2C, lowByte a, highByte a]
  | .aslAccumulator => [0x0A]
  | .aslZeroPage z => [0x06, z]
  | .aslZeroPageX z => [0x16, z]
  | .aslAbsolute a => [0x0E, lowByte a, highByte a]
  | .aslAbsoluteX a => [0x1E, lowByte a, highByte a]
  | .lsrAccumulator => [0x4A]
  | .lsrZeroPage z => [0x46, z]
  | .lsrZeroPageX z => [0x56, z]
  | .lsrAbsolute a => [0x4E, lowByte a, highByte a]
  | .lsrAbsoluteX a => [0x5E, lowByte a, highByte a]
  | .rolAccumulator => [0x2A]
  | .rolZeroPage z => [0x26, z]
  | .rolZeroPageX z => [0x36, z]
  | .rolAbsolute a => [0x2E, lowByte a, highByte a]
  | .rolAbsoluteX a => [0x3E, lowByte a, highByte a]
  | .rorAccumulator => [0x6A]
  | .rorZeroPage z => [0x66, z]
  | .rorZeroPageX z => [0x76, z]
  | .rorAbsolute a => [0x6E, lowByte a, highByte a]
  | .rorAbsoluteX a => [0x7E, lowByte a, highByte a]
  | .incZeroPage z => [0xE6, z]
  | .incZeroPageX z => [0xF6, z]
  | .incAbsolute a => [0xEE, lowByte a, highByte a]
  | .incAbsoluteX a => [0xFE, lowByte a, highByte a]
  | .decZeroPage z => [0xC6, z]
  | .decZeroPageX z => [0xD6, z]
  | .decAbsolute a => [0xCE, lowByte a, highByte a]
  | .decAbsoluteX a => [0xDE, lowByte a, highByte a]
  | .inx => [0xE8]
  | .iny => [0xC8]
  | .dex => [0xCA]
  | .dey => [0x88]
  | .ina => [0x1A]
  | .dea => [0x3A]
  | .bcc r => [0x90, r]
  | .bcs r => [0xB0, r]
  | .beq r => [0xF0, r]
  | .bmi r => [0x30, r]
  | .bne r => [0xD0, r]
  | .bpl r => [0x10, r]
  | .bvc r => [0x50, r]
  | .bvs r => [0x70, r]
  | .bra r => [0x80, r]
  | .jmpAbsolute a => [0x4C, lowByte a, highByte a]
  | .jmpIndirect p => [0x6C, lowByte p, highByte p]
  | .jsr a => [0x20, lowByte a, highByte a]
  | .rts => [0x60]
  | .rti => [0x40]
  | .brk => [0x00]
  | .pha => [0x48]
  | .php => [0x08]
  | .phx => [0xDA]
  | .phy => [0x5A]
  | .pla => [0x68]
  | .plp => [0x28]
  | .plx => [0xFA]
  | .ply => [0x7A]
  | .clc => [0x18]
  | .sec => [0x38]
  | .cli => [0x58]
  | .sei => [0x78]
  | .cld => [0xD8]
  | .sed => [0xF8]
  | .clv => [0xB8]
  | .nop => [0xEA]

/-- Byte `k` of the number `w`, counted from the least significant. -/
def byteOf (w k : Nat) : Byte := BitVec.ofNat 8 (w / 256 ^ k)

/-- The three bytes, first at the lowest address, of an instruction whose `nbits` table bits are the low bits of `w`; every
bit above them is 0. -/
def tableBytes (nbits w : Nat) : List Byte :=
  let w := w % 2 ^ nbits
  [byteOf w 0, byteOf w 1, byteOf w 2]

/-- The instruction the decoder reads from a word numbered as spec/opcode_table.json numbers it, with the default
ZPI_OPS = true (R9). -/
def decodeTableWord (nbits w : Nat) : Option Instr := (decode true (tableBytes nbits w)).instr?

end Sys2Proof
end

