-- ==== Sys2Proof/Config.lean ====
section
/-! DEFINITION. The implementation parameters (00_scope.md R9) with the defaults of 92_eei_decisions.md, the watch table,
which is host input fixed before the run (10_state.md R38, 47_tracer_profiler.md R327), and the two functions the
model leaves without a body. START_ADDR, LOAD_BASE and IMAGE are arguments of the run setup (Machine/Setup.lean). -/

namespace Sys2Proof

/-- ZP_INDEX_WRAP (R145, D2): how `zero_page_x` and `zero_page_y` wrap. -/
inductive ZpIndexWrap where
  | mod256 | mod255
  deriving DecidableEq, Repr

/-- ZP_PTR_HI (20_memory.md R64, D3): where the high byte of a zero-page pointer at 0xFF stands. -/
inductive ZpPtrHi where
  | zpWrap | linear
  deriving DecidableEq, Repr

/-- JMP_IND_WRAP (R150, D4): where the high byte of a pointer at 0x..FF stands. -/
inductive JmpIndWrap where
  | linear | pageBug
  deriving DecidableEq, Repr

/-- PHP_B (R291, D15): bit 4 of the byte PHP pushes. -/
inductive PhpB where
  | asHeld | forceSet
  deriving DecidableEq, Repr

/-- TRACE_CYCLES_POINT (R332, D30): the cycle count a jsr or rts event carries. -/
inductive TraceCyclesPoint where
  | before | after
  deriving DecidableEq, Repr

/-- The parameters bcd_adc and bcd_sbc (R201, R202; D6, D7, U1): the spec's default reading, or any other function of the
parameter's type, about which the model says nothing (log 2). -/
inductive BcdRule where
  | reading | other
  deriving DecidableEq, Repr

/-- FREE VALUE (log 2): bcd_adc where it is not the reading of R201. It has no body, so a statement about every state
holds for every function `bcd_adc(a, m, c) -> (r, C)`. -/
opaque Config.bcdAdcOther : Byte → Byte → Bool → Byte × Bool

/-- FREE VALUE (log 2): bcd_sbc where it is not the reading of R202. -/
opaque Config.bcdSbcOther : Byte → Byte → Bool → Byte × Bool

/-- The general registers (10_state.md R20). -/
inductive Reg where
  | a | x | y
  deriving DecidableEq, Repr

/-- When a watch samples (R327). -/
inductive WatchPhase where
  | pre | post
  deriving DecidableEq, Repr

/-- How many bits a watch samples, unsigned or signed (R327, R329). -/
inductive WatchWidth where
  | u8 | s8 | u16 | s16
  deriving DecidableEq, Repr

/-- What a watch samples (R327). -/
inductive WatchSource where
  | mem (addr : Word)
  | reg (r : Reg)
  deriving DecidableEq, Repr

/-- A watch descriptor (R327). -/
structure Watch where
  index : Nat
  pc : Word
  phase : WatchPhase
  width : WatchWidth
  source : WatchSource
  deriving DecidableEq, Repr

/-- R327, D29: the load of the watch table rejects a 16-bit width with a register source. -/
def Watch.accepted (w : Watch) : Bool :=
  match w.width, w.source with
  | .u16, .reg _ | .s16, .reg _ => false
  | _, _ => true

/-- The parameters of R9 and the watch table. They stand in State (log 1), so that a statement over every state holds for
every setting of them; no step changes them. -/
structure Params where
  zpIndexWrap : ZpIndexWrap
  zpPtrHi : ZpPtrHi
  jmpIndWrap : JmpIndWrap
  zpiOps : Bool
  bcdAdc : BcdRule
  bcdSbc : BcdRule
  phpB : PhpB
  shadowDepth : Nat
  frameAddr : Option Word
  frameLimit : Option Nat
  /-- OPEN in the spec (D32, U11): `none` is a machine whose status byte address is not given (log 10). -/
  screenStatusAddr : Option Word
  traceCyclesPoint : TraceCyclesPoint
  watches : List Watch
  deriving DecidableEq, Repr

/-- The defaults of R9; SCREEN_STATUS_ADDR, which R9 leaves OPEN, is `none`, and the watch table is empty (log 10). -/
def Params.default : Params where
  zpIndexWrap := .mod256
  zpPtrHi := .zpWrap
  jmpIndWrap := .linear
  zpiOps := true
  bcdAdc := .reading
  bcdSbc := .reading
  phpB := .asHeld
  shadowDepth := 256
  frameAddr := none
  frameLimit := none
  screenStatusAddr := none
  traceCyclesPoint := .after
  watches := []

end Sys2Proof
end

