-- ==== Sys2Proof/Machine/Flags.lean ====
section
/-! DEFINITION. The status byte P and everything that computes a flag: the flag accessors (10_state.md R30), SetZN (R34), the
shared arithmetic of 43_alu.md and the shifts of 44_shift_incdec.md, as functions of bytes. -/

namespace Sys2Proof.Machine

/-- The bits of P (R30). -/
inductive Flag where
  | c | z | i | d | b | u | v | n
  deriving DecidableEq, Repr

/-- The bit of P a flag stands in (R11, R30). -/
def flagBit : Flag → Nat
  | .c => 0
  | .z => 1
  | .i => 2
  | .d => 3
  | .b => 4
  | .u => 5
  | .v => 6
  | .n => 7

/-- A flag of the status byte `p`. -/
def getFlag (f : Flag) (p : Byte) : Bool := p.getLsbD (flagBit f)

/-- `p` with one flag written and the seven other bits kept. -/
def putFlag (f : Flag) (on : Bool) (p : Byte) : Byte :=
  if on then p ||| (1#8 <<< flagBit f) else p &&& ~~~(1#8 <<< flagBit f)

/-- `SetZN(v)` (R34): `P.Z <- (v == 0); P.N <- v[7]`. -/
def setZN (v p : Byte) : Byte := putFlag .n (v.getLsbD 7) (putFlag .z (v == 0) p)

/-- What `AddCore` returns (43_alu.md R200): `(s, rb, Cb, Vb)`. -/
structure AddResult where
  sum : Nat
  result : Byte
  carry : Bool
  overflow : Bool
  deriving DecidableEq, Repr

/-- `AddCore(a, n, c)` (R200): the 9-bit sum, its low byte, its carry and its signed overflow. -/
def addCore (a n : Byte) (c : Bool) : AddResult :=
  let s := a.toNat + n.toNat + c.toNat
  let rb := BitVec.ofNat 8 s
  { sum := s
    result := rb
    carry := decide (s > 0xFF)
    overflow := ((rb ^^^ a) &&& (rb ^^^ n)).getLsbD 7 }

/-- The nibble renormalisation shared by R201 and R202, low nibble first: the part that adds 6 when the low nibble is
over 9. `s` may be negative in R202; `%` is the non-negative remainder. -/
def fixLowNibble (s : Int) : Int := if s % 16 > 9 then s + 0x06 else s

/-- The part that adds 0x60 when `s & 0xF0` is over 0x90, which is when bits 7 to 4 are over 9. -/
def fixHighNibble (s : Int) : Int := if s / 16 % 16 > 9 then s + 0x60 else s

/-- The spec's reading of bcd_adc (R201, D6): the default of the parameter. -/
def bcdAdcReading (a m : Byte) (c : Bool) : Byte × Bool :=
  let s := fixHighNibble (fixLowNibble (a.toNat + m.toNat + c.toNat : Nat))
  (BitVec.ofInt 8 s, decide (s > 0xFF))

/-- The spec's reading of bcd_sbc (R202, D7): the default of the parameter. -/
def bcdSbcReading (a m : Byte) (c : Bool) : Byte × Bool :=
  let s := fixHighNibble (fixLowNibble (((a.toNat + (~~~m).toNat + c.toNat : Nat) : Int) - 0x66))
  (BitVec.ofInt 8 s, decide (s > 0xFF))

/-- The parameter bcd_adc. -/
def bcdAdc : BcdRule → Byte → Byte → Bool → Byte × Bool
  | .reading => bcdAdcReading
  | .other => Config.bcdAdcOther

/-- The parameter bcd_sbc. -/
def bcdSbc : BcdRule → Byte → Byte → Bool → Byte × Bool
  | .reading => bcdSbcReading
  | .other => Config.bcdSbcOther

/-- The new A and P of ADC (R203): the binary sum or the decimal routine, C from the one used, V from the binary sum in both
modes (D8), Z and N from the new A. -/
def addWithCarry (rule : BcdRule) (a m p : Byte) : Byte × Byte :=
  let c := getFlag .c p
  let s := addCore a m c
  let q := if getFlag .d p then bcdAdc rule a m c else (s.result, s.carry)
  (q.1, setZN q.1 (putFlag .v s.overflow (putFlag .c q.2 p)))

/-- The new A and P of SBC (R204): the binary sum is that of A, `~m` and C, and V takes `~m` as its operand (D9). -/
def subtractWithBorrow (rule : BcdRule) (a m p : Byte) : Byte × Byte :=
  let c := getFlag .c p
  let s := addCore a (~~~m) c
  let q := if getFlag .d p then bcdSbc rule a m c else (s.result, s.carry)
  (q.1, setZN q.1 (putFlag .v s.overflow (putFlag .c q.2 p)))

/-- The new P of `Compare(r, m)` (R208). -/
def compareFlags (r m p : Byte) : Byte :=
  putFlag .n ((r - m).getLsbD 7) (putFlag .z (r == m) (putFlag .c (decide (r ≥ m)) p))

/-- The new P of BIT (R212): Z from `A & m`, N and V from bits 7 and 6 of `m`. -/
def bitFlags (a m p : Byte) : Byte :=
  putFlag .v (m.getLsbD 6) (putFlag .n (m.getLsbD 7) (putFlag .z ((a &&& m) == 0) p))

/-- The result `r` of a shift or rotate that shifts `out` off, with the new P: C from `out`, Z and N from `r`. -/
def shifted (r : Byte) (out : Bool) (p : Byte) : Byte × Byte := (r, setZN r (putFlag .c out p))

/-- The result and the new P of ASL (44_shift_incdec.md R231). -/
def aslResult (v p : Byte) : Byte × Byte := shifted (v <<< 1) (v.getLsbD 7) p

/-- The result and the new P of LSR (R232). -/
def lsrResult (v p : Byte) : Byte × Byte := shifted (v >>> 1) (v.getLsbD 0) p

/-- The result and the new P of ROL (R233): the old carry enters at bit 0. -/
def rolResult (v p : Byte) : Byte × Byte :=
  shifted (v <<< 1 ||| BitVec.ofNat 8 (getFlag .c p).toNat) (v.getLsbD 7) p

/-- The result and the new P of ROR (R234): the old carry enters at bit 7. -/
def rorResult (v p : Byte) : Byte × Byte :=
  shifted (v >>> 1 ||| BitVec.ofNat 8 (128 * (getFlag .c p).toNat)) (v.getLsbD 0) p

/-- The result and the new P of INC (R235). -/
def incResult (v p : Byte) : Byte × Byte := (v + 1, setZN (v + 1) p)

/-- The result and the new P of DEC (R236). -/
def decResult (v p : Byte) : Byte × Byte := (v - 1, setZN (v - 1) p)

end Sys2Proof.Machine
end

