-- ==== Sys2Proof/Machine/State.lean ====
section
/-! DEFINITION. The machine's state as plain data (10_state.md R20 to R43), the ways a step can stop, and the state a run
starts from. -/

namespace Sys2Proof.Machine

/-- The five fatal kinds (60_exceptions.md R351). -/
inductive FatalKind where
  | decodeError | unimplementedOpcode | stackOverflow | stackUnderrun | ioError
  deriving DecidableEq, Repr

/-- Why a run stopped without an error (10_state.md R41). -/
inductive StopReason where
  | frameLimit | quit
  deriving DecidableEq, Repr

/-- RUN (10_state.md R41). The address and byte of a fatal error are those R351 records; an IOError has neither. -/
inductive RunStatus where
  | running
  | stopped (reason : StopReason)
  | fatal (kind : FatalKind) (addr : Option Word) (byte : Option Byte)
  deriving DecidableEq, Repr

/-- A frame of the shadow call stack (10_state.md R39). -/
structure Frame where
  target : Word
  sp : Byte
  deriving DecidableEq, Repr

/-- An event on the write-hook port (20_memory.md R70), in a watch record (47_tracer_profiler.md R330) or on the trace port
(R331 to R335). -/
inductive Event where
  /-- `WriteHook(addr, old, v, pc0, CYC)` (R70). -/
  | write (addr : Word) (old new : Byte) (pc0 : Word) (cycles : Count)
  /-- `screen <cycles> ...` (R334); the pixels are the display collaborator's. -/
  | screen (cycles : Count)
  /-- `watch <routine> <index> <cycles> <values...>` (R330). -/
  | watch (routine : Option Word) (index : Nat) (cycles : Count) (values : List Int)
  /-- `log <pc> <a> <x> <y> <pc'> <sp> <flags>` (R331). -/
  | log (pc : Word) (a x y : Byte) (pc' : Word) (sp p : Byte)
  /-- `jsr <target> <cycles>` (R332). -/
  | jsr (target : Word) (cycles : Count)
  /-- `rts <cycles>` (R332). -/
  | rts (cycles : Count)
  /-- `cycles <n>` (R333). -/
  | cycles (n : Nat)
  /-- `error <pc> <message>` (R335); the kind stands for the message, whose text the spec leaves open (log 27). -/
  | error (pc : Option Word) (kind : FatalKind)
  deriving DecidableEq, Repr

/-- Memory: the bytes that are not 0x00, by address (20_memory.md R60; an address not listed reads 0x00, R43, R380). -/
abbrev Memory := List Host.Cell

/-- A table of 64-bit counters by 16-bit address: the entries that are not 0 (10_state.md R40). -/
abbrev Counters := List (Nat × Count)

/-- The state of the machine. -/
structure State where
  /-- A (R21). -/
  a : Byte
  /-- X (R22). -/
  x : Byte
  /-- Y (R23). -/
  y : Byte
  /-- SP (R25). -/
  sp : Byte
  /-- P (R30): C 0, Z 1, I 2, D 3, B 4, U 5, V 6, N 7. -/
  p : Byte
  /-- PC (R24): between steps the address of the next opcode byte. -/
  pc : Word
  /-- CYC (R37). -/
  cyc : Count
  /-- M (20_memory.md R60). -/
  mem : Memory
  /-- SHADOW (R39), the innermost frame first. -/
  shadow : List Frame
  /-- RCYC (R40). -/
  rcyc : Counters
  /-- RCALLS (R40). -/
  rcalls : Counters
  /-- FRAMES (R41, 40_step.md R130). -/
  frames : Nat
  /-- RUN (R41). -/
  run : RunStatus
  /-- The parameters of 00_scope.md R9 and the watch table, fixed before the run (R38; log 1). -/
  cfg : Params
  /-- The MODEL's own field: the host's quit signals (40_step.md R127, D39), one for each coming instruction boundary and
  `true` for a quit; no quit comes after the list's end (log 7). -/
  hostQuit : List Bool
  /-- The MODEL's own field: the events of the latest step in the order they were emitted (log 8). -/
  port : List Event
  deriving DecidableEq, Repr

/-- Why a step answers no next state. -/
inductive Fault where
  /-- Raised by `step` when RUN is not Running: "no step is taken after RUN leaves Running" (40_step.md R128). Safe: the run
  has ended, and the machine takes no step there either (log 6). -/
  | runEnded (status : RunStatus)
  deriving DecidableEq, Repr

/-- Why an instruction has no meaning. -/
inductive Refusal where
  /-- Raised by an arm of `exec` whose instruction has no meaning yet; no arm does. Safe. -/
  | notModelled (mnemonic : String)
  deriving DecidableEq, Repr

/-- The three outcomes of a step. -/
abbrev Result := Host.Outcome State Fault Refusal

/-- The state at the start of a run (10_state.md R43, 70_reset_and_hazards.md R380) with the default parameters, no image
and START_ADDR = 0x0000 (log 3, log 4). -/
def State.reset : State where
  a := 0x00
  x := 0x00
  y := 0x00
  sp := 0xFF
  p := 0x20
  pc := 0x0000
  cyc := 0
  mem := []
  shadow := []
  rcyc := []
  rcalls := []
  frames := 0
  run := .running
  cfg := .default
  hostQuit := []
  port := []

end Sys2Proof.Machine
end

