-- ==== Sys2Proof/Machine/Ops.lean ====
section
/-! DEFINITION. The named operations over registers, memory and the stack (10_state.md, 20_memory.md), the ports, and the
machine's one exception: raising a fatal error (60_exceptions.md R350), with the pulls of RTI beside it. -/

namespace Sys2Proof.Machine

/-! ### Sparse tables: memory and the per-routine counters -/

/-- The value of a table at `k`: that of the first entry for `k`, and 0 where there is none. -/
def cellGet {w : Nat} : List (Nat × BitVec w) → Nat → BitVec w
  | [], _ => 0
  | (k', v) :: t, k => if k' = k then v else cellGet t k

/-- The table with the value `v` at `k`; a 0 leaves no entry for `k`, and entries stay in rising order. -/
def cellPut {w : Nat} : List (Nat × BitVec w) → Nat → BitVec w → List (Nat × BitVec w)
  | [], k, v => if v = 0 then [] else [(k, v)]
  | (k', u) :: t, k, v =>
    if k' = k then cellPut t k v
    else if k' < k ∨ v = 0 then (k', u) :: cellPut t k v
    else (k, v) :: (k', u) :: t

/-- The canonical form from `lo` on: keys strictly rising, at least `lo` and below 65536, and no entry 0. -/
def cellsFrom {w : Nat} (lo : Nat) : List (Nat × BitVec w) → Bool
  | [] => true
  | (k, v) :: t => decide (lo ≤ k) && decide (k < 65536) && v != 0 && cellsFrom (k + 1) t

/-- The one canonical form of a table of 65536 entries: equal contents are equal lists. -/
def cellsWf {w : Nat} (t : List (Nat × BitVec w)) : Bool := cellsFrom 0 t

/-- Memory in canonical form. -/
def Memory.wf (m : Memory) : Bool := cellsWf m

/-- A counter table in canonical form. -/
def Counters.wf (t : Counters) : Bool := cellsWf t

/-! ### Registers -/

/-- Read a general register (R20). -/
def State.reg (s : State) : Reg → Byte
  | .a => s.a
  | .x => s.x
  | .y => s.y

/-- Write a general register. -/
def State.setReg (s : State) (r : Reg) (v : Byte) : State :=
  match r with
  | .a => { s with a := v }
  | .x => { s with x := v }
  | .y => { s with y := v }

/-- Write PC. -/
def State.setPc (s : State) (w : Word) : State := { s with pc := w }

/-- Write SP. -/
def State.setSp (s : State) (v : Byte) : State := { s with sp := v }

/-- Write P whole. -/
def State.setP (s : State) (v : Byte) : State := { s with p := v }

/-- Read one flag of P. -/
def State.flag (s : State) (f : Flag) : Bool := getFlag f s.p

/-- Write one flag of P. -/
def State.setFlag (s : State) (f : Flag) (on : Bool) : State := s.setP (putFlag f on s.p)

/-- Write RUN. -/
def State.setRun (s : State) (r : RunStatus) : State := { s with run := r }

/-- Emit events on the ports, after those already emitted in this step. -/
def State.emit (s : State) (es : List Event) : State := { s with port := s.port ++ es }

/-- `R <- v; SetZN(v)` (R34): the write of every instruction that gives A, X or Y a new value. -/
def loadReg (r : Reg) (v : Byte) (s : State) : State := (s.setReg r v).setP (setZN v s.p)

/-- A and P written together. -/
def State.setAP (s : State) (q : Byte × Byte) : State := (s.setReg .a q.1).setP q.2

/-! ### Memory -/

/-- `zext_16(v)` (00_scope.md R10). -/
def zext16 (v : Byte) : Word := v.setWidth 16

/-- `sext_16(v)` (R10). -/
def sext16 (v : Byte) : Word := v.signExtend 16

/-- `MemRead(addr, 1)` (20_memory.md R61). -/
def memRead (s : State) (addr : Word) : Byte := cellGet s.mem addr.toNat

/-- `MemRead16(addr)` (R63): low byte first, wrapping from 0xFFFF to 0x0000. -/
def memRead16 (s : State) (addr : Word) : Word := wordOf (memRead s (addr + 1)) (memRead s addr)

/-- The address of the high byte of a zero-page pointer at `z` (R64, D3). -/
def zpPointerHi (rule : ZpPtrHi) (z : Byte) : Word :=
  match rule with
  | .zpWrap => zext16 (z + 1)
  | .linear => zext16 z + 1

/-- `MemReadZP16(z)` (R64). -/
def memReadZp16 (s : State) (z : Byte) : Word :=
  wordOf (memRead s (zpPointerHi s.cfg.zpPtrHi z)) (memRead s (zext16 z))

/-- The screen event of a write (47_tracer_profiler.md R334): one when the byte at SCREEN_STATUS_ADDR changes. -/
def screenEvents (cfg : Params) (addr : Word) (old new : Byte) (cycles : Count) : List Event :=
  if cfg.screenStatusAddr = some addr ∧ old ≠ new then [.screen cycles] else []

/-- `MemWrite(addr, 1, v)` (R62) by the instruction at `pc0`: the byte is stored, then the write hook event is emitted (R70)
and the display's, if the write causes one. CYC is still that of the step's start (40_step.md R120). -/
def memWrite (pc0 addr : Word) (v : Byte) (s : State) : State :=
  State.emit { s with mem := cellPut s.mem addr.toNat v }
    (.write addr (memRead s addr) v pc0 s.cyc :: screenEvents s.cfg addr (memRead s addr) v s.cyc)

/-! ### The stack and the fatal error -/

/-- The outcome of a part of an instruction: it goes on with a value, or it raises a fatal error (R350), in the state
reached so far. -/
inductive Eff (α : Type) where
  | ok (val : α) (s : State)
  | fatal (kind : FatalKind) (s : State)
  deriving DecidableEq, Repr

/-- Go on with the next part unless a fatal error was raised. -/
def Eff.bind {α β : Type} (e : Eff α) (f : α → State → Eff β) : Eff β :=
  match e with
  | .ok v s => f v s
  | .fatal k s => .fatal k s

/-- The address the stack pointer designates: `0x0100 + SP` (10_state.md R25). -/
def stackAddr (sp : Byte) : Word := 0x0100 + zext16 sp

/-- `Push(v)` (R27): StackOverflow at SP = 0x00, before the write. -/
def push (pc0 : Word) (v : Byte) (s : State) : Eff Unit :=
  if s.sp = 0x00 then .fatal .stackOverflow s
  else .ok () ((memWrite pc0 (stackAddr s.sp) v s).setSp (s.sp - 1))

/-- `Pop()` (R28): StackUnderrun at SP = 0xFF, before SP changes. -/
def pop (s : State) : Eff Byte :=
  if s.sp = 0xFF then .fatal .stackUnderrun s
  else .ok (memRead s (stackAddr (s.sp + 1))) (s.setSp (s.sp + 1))

/-- `raise Fatal(kind, pc0, op)` (60_exceptions.md R350, R351): the machine's one exception. RUN takes the kind, the
address of the opcode and the opcode byte, an error event is emitted (47_tracer_profiler.md R335), and nothing else
changes: no state is saved, no vector is read, no cycle is added, and earlier writes stay (D18). -/
def raiseFatal (kind : FatalKind) (pc0 : Word) (op : Byte) (s : State) : State :=
  (s.setRun (.fatal kind (some pc0) (some op))).emit [.error (some pc0) kind]

/-- The pulls of RTI (45_control_transfer.md R273): P, then the low and the high byte of PC; bit 5 of P is forced to 1, and
P is written only when all three succeed. It returns from no exception (60_exceptions.md R362). -/
def pullStatusAndPc (s : State) : Eff Unit :=
  (pop s).bind fun p s1 => (pop s1).bind fun lo s2 => (pop s2).bind fun hi s3 =>
    .ok () ((s3.setP (p ||| 0x20)).setPc (wordOf hi lo))

end Sys2Proof.Machine
end

