-- ==== Sys2Proof/Machine/Operands.lean ====
section
/-! DEFINITION. The address resolver (41_addressing.md R140 to R157): every operand form, the value it reads, where it writes
back, the length of an instruction that has it, and the cycle adjustment it adds. The operand bytes are in the form
already; resolving a form reads memory and changes nothing (R140). -/

namespace Sys2Proof.Machine

/-- The forms that resolve to a 16-bit effective address, with their operand (R144 to R153). -/
inductive AddrForm where
  | zeroPage (z : Byte)
  | zeroPageX (z : Byte)
  | zeroPageY (z : Byte)
  | absolute (a : Word)
  | absoluteX (a : Word)
  | absoluteY (a : Word)
  | indirect (p : Word)
  | zeroPageIndirect (z : Byte)
  | indexedIndirectX (z : Byte)
  | indirectIndexedY (z : Byte)
  deriving DecidableEq, Repr

/-- `ZPIndex(z, i)` (R145, D2). -/
def zpIndex (rule : ZpIndexWrap) (z i : Byte) : Byte :=
  match rule with
  | .mod256 => z + i
  | .mod255 => BitVec.ofNat 8 ((z.toNat + i.toNat) % 255)

/-- The address of the high byte of the pointer of the `indirect` mode (R150, D4). -/
def indirectHi (rule : JmpIndWrap) (p : Word) : Word :=
  match rule with
  | .linear => p + 1
  | .pageBug => wordOf (highByte p) (lowByte p + 1)

/-- The effective address EA (R144 to R153). -/
def AddrForm.ea (m : AddrForm) (s : State) : Word :=
  match m with
  | .zeroPage z => zext16 z
  | .zeroPageX z => zext16 (zpIndex s.cfg.zpIndexWrap z s.x)
  | .zeroPageY z => zext16 (zpIndex s.cfg.zpIndexWrap z s.y)
  | .absolute a => a
  | .absoluteX a => a + zext16 s.x
  | .absoluteY a => a + zext16 s.y
  | .indirect p => wordOf (memRead s (indirectHi s.cfg.jmpIndWrap p)) (memRead s p)
  | .zeroPageIndirect z => memReadZp16 s z
  | .indexedIndirectX z => memReadZp16 s (z + s.x)
  | .indirectIndexedY z => memReadZp16 s z + zext16 s.y

/-- `Cross(base, EA)` (R156): 1 when the high nibble, bits 15 to 12, differs. -/
def cross (base ea : Word) : Nat := if base.extractLsb' 12 4 ≠ ea.extractLsb' 12 4 then 1 else 0

/-- `adj_mode` (R157): the nibble penalty of the absolute indexed and indirect indexed modes, whatever the mnemonic (D11),
from the address before the index is added to EA. -/
def AddrForm.adj (m : AddrForm) (s : State) : Nat :=
  match m with
  | .absoluteX a | .absoluteY a => cross a (m.ea s)
  | .indirectIndexedY z => cross (memReadZp16 s z) (m.ea s)
  | .zeroPage _ | .zeroPageX _ | .zeroPageY _ | .absolute _ | .indirect _ | .zeroPageIndirect _ | .indexedIndirectX _ => 0

/-- The length of an instruction with this form: `1 + operand_length` (30_encoding.md R90). -/
def AddrForm.length : AddrForm → Nat
  | .zeroPage _ | .zeroPageX _ | .zeroPageY _ | .zeroPageIndirect _ | .indexedIndirectX _ | .indirectIndexedY _ => 2
  | .absolute _ | .absoluteX _ | .absoluteY _ | .indirect _ => 3

/-- The operand of an instruction that reads a value: an immediate (R143) or memory. -/
inductive Source where
  | imm (v : Byte)
  | mem (m : AddrForm)
  deriving DecidableEq, Repr

/-- `Operand()` (R155) for a source. -/
def Source.read (o : Source) (s : State) : Byte :=
  match o with
  | .imm v => v
  | .mem m => memRead s (m.ea s)

/-- `adj_mode` of a source (R143, R157). -/
def Source.adj (o : Source) (s : State) : Nat :=
  match o with
  | .imm _ => 0
  | .mem m => m.adj s

/-- The length of an instruction with this source. -/
def Source.length : Source → Nat
  | .imm _ => 2
  | .mem m => m.length

/-- The operand of an instruction that reads a value and writes one back: A (R142) or memory. -/
inductive Target where
  | acc
  | mem (m : AddrForm)
  deriving DecidableEq, Repr

/-- `Operand()` (R155) for a target. -/
def Target.read (o : Target) (s : State) : Byte :=
  match o with
  | .acc => s.a
  | .mem m => memRead s (m.ea s)

/-- `WriteBack(v)` (R155): A, or the byte at EA. -/
def Target.write (o : Target) (pc0 : Word) (v : Byte) (s : State) : State :=
  match o with
  | .acc => s.setReg .a v
  | .mem m => memWrite pc0 (m.ea s) v s

/-- `adj_mode` of a target (R142, R157). -/
def Target.adj (o : Target) (s : State) : Nat :=
  match o with
  | .acc => 0
  | .mem m => m.adj s

/-- The length of an instruction with this target. -/
def Target.length : Target → Nat
  | .acc => 1
  | .mem m => m.length

end Sys2Proof.Machine
end

