-- ==== Sys2Proof/Machine/Profiler.lean ====
section
/-! DEFINITION. The call tracer and profiler (47_tracer_profiler.md R320 to R325, R336), the trace port (R331 to R333), and
the accounting that ends every completed instruction (40_step.md R124, R125). -/

namespace Sys2Proof.Machine

/-- `RCALLS[target] <- RCALLS[target] + 1` (R322). -/
def countCall (target : Word) (s : State) : State :=
  { s with rcalls := cellPut s.rcalls target.toNat (cellGet s.rcalls target.toNat + 1) }

/-- `ShadowCall(target, sp_call)` (R321): a frame is pushed while there is room (R324, D20), and the call is counted. -/
def shadowCall (target : Word) (spCall : Byte) (s : State) : State :=
  countCall target
    (if s.shadow.length < s.cfg.shadowDepth then { s with shadow := ⟨target, spCall⟩ :: s.shadow } else s)

/-- `ShadowReturn(sp_ret)` (R323): the top frame is popped when its recorded SP is `sp_ret + 2`, compared as integers.
DESIGN CHOICE (log 18): R324 says that the RTS of a call whose frame was dropped at a full SHADOW finds no match and pops
nothing, but a stale frame on top can hold that very SP. The model follows the value comparison of R323 and D21 there and
pops it. -/
def shadowReturn (spRet : Byte) (s : State) : State :=
  match s.shadow with
  | [] => s
  | f :: rest => if f.sp.toNat = spRet.toNat + 2 then { s with shadow := rest } else s

/-- `Attribute(cost)` (R325): the cost goes to the routine of the top frame, or to none. -/
def attributeCost (cost : Nat) (s : State) : State :=
  match s.shadow with
  | [] => s
  | f :: _ =>
    { s with rcyc := cellPut s.rcyc f.target.toNat (cellGet s.rcyc f.target.toNat + BitVec.ofNat 64 cost) }

/-- What a completed instruction tells the trace port about the call structure (R332). -/
inductive CallTrace where
  | none
  | jsr (target : Word)
  | rts
  deriving DecidableEq, Repr

/-- The jsr or rts event (R332), whose cycles are CYC before or after the cost (TRACE_CYCLES_POINT, D30). -/
def callEvents (point : TraceCyclesPoint) (c : CallTrace) (before after : Count) : List Event :=
  let cycles := match point with
    | .before => before
    | .after => after
  match c with
  | .none => []
  | .jsr target => [.jsr target cycles]
  | .rts => [.rts cycles]

/-- The cycle marks (R333, D31): one event for each multiple `n` of 100000 with `c0 < n <= c1`. -/
def cycleMarks (c0 c1 : Count) : List Event :=
  (List.range (c1.toNat / 100000 - c0.toNat / 100000)).map fun k =>
    .cycles (100000 * (c0.toNat / 100000 + 1 + k))

/-- The log line of the instruction at `pc0` (R331, D41): every other value is the one after the instruction. -/
def logEvent (pc0 : Word) (s : State) : Event := .log pc0 s.a s.x s.y s.pc s.sp s.p

/-- The end of a completed instruction (40_step.md R120): `CYC <- CYC + cost; Attribute(cost); TraceLog(pc0)`, with the call
event and the cycle marks, in an order the spec leaves open (log 9). -/
def complete (pc0 : Word) (cost : Nat) (c : CallTrace) (s : State) : State :=
  let cyc' := s.cyc + BitVec.ofNat 64 cost
  State.emit (attributeCost cost { s with cyc := cyc' })
    (callEvents s.cfg.traceCyclesPoint c s.cyc cyc' ++ cycleMarks s.cyc cyc' ++ [logEvent pc0 s])

/-- The first frame from the top whose recorded SP is `spNow + 2` (R330). -/
def frameAt (spNow : Byte) : List Frame → Option Word
  | [] => none
  | f :: rest => if f.sp.toNat = spNow.toNat + 2 then some f.target else frameAt spNow rest

/-- `EnclosingRoutine()` (R330, D29). -/
def enclosingRoutine (s : State) : Option Word := frameAt s.sp s.shadow

/-- An exact quotient of two counts; a divisor 0 has none (DESIGN CHOICE, log 28). -/
def quotient (n d : Nat) : Option Rat := if d = 0 then none else some ((n : Rat) / (d : Rat))

/-- A row of the profiling table (R336), its five columns in the rule's order, with exact quotients. Rounding, order and which
rows are printed are the host's (U9; log 28). -/
structure ProfileRow where
  /-- The routine's address `r`. -/
  routine : Word
  /-- `RCYC[r]`. -/
  cycles : Count
  /-- `RCYC[r] / CYC` as a percentage. -/
  percent : Option Rat
  /-- `RCALLS[r]`. -/
  calls : Count
  /-- `RCYC[r] / RCALLS[r]`. -/
  cyclesPerCall : Option Rat
  deriving DecidableEq, Repr

/-- The profiling table's row of a routine (R336); after an image that could not be read there is none
(70_reset_and_hazards.md R382). -/
def profileRow (s : State) (r : Word) : Option ProfileRow :=
  match s.run with
  | .fatal .ioError _ _ => none
  | _ =>
    let cycles := cellGet s.rcyc r.toNat
    let calls := cellGet s.rcalls r.toNat
    some {
      routine := r
      cycles := cycles
      percent := quotient (100 * cycles.toNat) s.cyc.toNat
      calls := calls
      cyclesPerCall := quotient cycles.toNat calls.toNat }

end Sys2Proof.Machine
end

