-- ==== Sys2Proof/Machine/Execute.lean ====
section
/-! DEFINITION. The part of the step that every instruction shares (40_step.md R120, R123 to R125): PC moves past the
instruction's bytes, the operand is resolved, the instruction's own rule runs, and its cost is accounted for or its fatal
error raised. Each shape of instruction has one operation here, which the meanings of the families apply. -/

namespace Sys2Proof.Machine

/-- What an instruction's rule returns when it completes: `adj_branch` (R123) and its call event. -/
structure Completion where
  adjBranch : Nat := 0
  call : CallTrace := .none
  deriving DecidableEq, Repr

/-- One instruction from `s`, whose PC is `pc0`: `base` and `adj` are its base cycles and `adj_mode`, `len` its length, and
`execute` its rule, run with PC at the next instruction (R121). -/
def instruction (op : Byte) (base len adj : Nat) (execute : State → Eff Completion) (s : State) : Result :=
  match execute (s.setPc (s.pc + BitVec.ofNat 16 len)) with
  | .ok d t => .next (complete s.pc (base + adj + d.adjBranch) d.call t)
  | .fatal k t => .next (raiseFatal k s.pc op t)

/-- An instruction that reads a value and computes with it: `f m` is its effect for the operand `m`. -/
def readInstr (op : Byte) (base : Nat) (o : Source) (f : Byte → State → State) (s : State) : Result :=
  instruction op base o.length (o.adj s) (fun s1 => .ok {} (f (o.read s1) s1)) s

/-- An instruction that stores a byte at EA without reading it (R155). -/
def storeInstr (op : Byte) (base : Nat) (m : AddrForm) (v : State → Byte) (s : State) : Result :=
  instruction op base m.length (m.adj s) (fun s1 => .ok {} (memWrite s.pc (m.ea s1) (v s1) s1)) s

/-- A read-modify-write instruction (44_shift_incdec.md R230): one read, one write, and the new P; `f v p` is the result and
the new P for the value `v` and the old P. -/
def modifyInstr (op : Byte) (base : Nat) (o : Target) (f : Byte → Byte → Byte × Byte) (s : State) : Result :=
  instruction op base o.length (o.adj s)
    (fun s1 => .ok {} ((o.write s.pc (f (o.read s1) s1.p).1 s1).setP (f (o.read s1) s1.p).2)) s

/-- An implied or accumulator instruction that cannot fail. -/
def impliedInstr (op : Byte) (base : Nat) (f : State → State) (s : State) : Result :=
  instruction op base 1 0 (fun s1 => .ok {} (f s1)) s

/-- An implied instruction that pushes or pops: `f pc0` is its rule. -/
def stackInstr (op : Byte) (base : Nat) (f : Word → State → Eff Unit) (s : State) : Result :=
  instruction op base 1 0 (fun s1 => (f s.pc s1).bind fun _ s2 => .ok {} s2) s

end Sys2Proof.Machine
end

