-- ==== Sys2Proof/Machine/Alu.lean ====
section
/-! DEFINITION. Add, subtract, logic, compare and bit test (43_alu.md R203 to R212), each the effect of one operand byte on the state and
the instructions that apply it. -/

namespace Sys2Proof.Machine

/-- The effect of ADC for the operand `m` (R203). -/
def adcEffect (m : Byte) (s : State) : State := s.setAP (addWithCarry s.cfg.bcdAdc s.a m s.p)

/-- The effect of SBC for the operand `m` (R204). -/
def sbcEffect (m : Byte) (s : State) : State := s.setAP (subtractWithBorrow s.cfg.bcdSbc s.a m s.p)

/-- The effect of AND for the operand `m` (R205). -/
def andEffect (m : Byte) (s : State) : State := loadReg .a (s.a &&& m) s

/-- The effect of ORA for the operand `m` (R206). -/
def oraEffect (m : Byte) (s : State) : State := loadReg .a (s.a ||| m) s

/-- The effect of EOR for the operand `m` (R207). -/
def eorEffect (m : Byte) (s : State) : State := loadReg .a (s.a ^^^ m) s

/-- The effect of a compare of register `r` with the operand `m` (R208): P alone changes. -/
def compareEffect (r : Reg) (m : Byte) (s : State) : State := s.setP (compareFlags (s.reg r) m s.p)

/-- The effect of BIT for the operand `m` (R212): P alone changes. -/
def bitEffect (m : Byte) (s : State) : State := s.setP (bitFlags s.a m s.p)

/-- ADC immediate, 0x69, 2 cycles (R203). -/
def execAdcImmediate (v : Byte) (s : State) : Result := readInstr 0x69 2 (.imm v) adcEffect s

/-- ADC zero_page, 0x65, 3 cycles (R203). -/
def execAdcZeroPage (z : Byte) (s : State) : Result := readInstr 0x65 3 (.mem (.zeroPage z)) adcEffect s

/-- ADC zero_page_x, 0x75, 4 cycles (R203). -/
def execAdcZeroPageX (z : Byte) (s : State) : Result := readInstr 0x75 4 (.mem (.zeroPageX z)) adcEffect s

/-- ADC absolute, 0x6D, 4 cycles (R203). -/
def execAdcAbsolute (a : Word) (s : State) : Result := readInstr 0x6D 4 (.mem (.absolute a)) adcEffect s

/-- ADC absolute_x, 0x7D, 4 cycles (R203). -/
def execAdcAbsoluteX (a : Word) (s : State) : Result := readInstr 0x7D 4 (.mem (.absoluteX a)) adcEffect s

/-- ADC absolute_y, 0x79, 4 cycles (R203). -/
def execAdcAbsoluteY (a : Word) (s : State) : Result := readInstr 0x79 4 (.mem (.absoluteY a)) adcEffect s

/-- ADC indexed_indirect_x, 0x61, 6 cycles (R203). -/
def execAdcIndexedIndirectX (z : Byte) (s : State) : Result :=
  readInstr 0x61 6 (.mem (.indexedIndirectX z)) adcEffect s

/-- ADC indirect_indexed_y, 0x71, 5 cycles (R203). -/
def execAdcIndirectIndexedY (z : Byte) (s : State) : Result :=
  readInstr 0x71 5 (.mem (.indirectIndexedY z)) adcEffect s

/-- ADC zero_page_indirect, 0x72, 5 cycles (R203). -/
def execAdcZeroPageIndirect (z : Byte) (s : State) : Result :=
  readInstr 0x72 5 (.mem (.zeroPageIndirect z)) adcEffect s

/-- SBC immediate, 0xE9, 2 cycles (R204). -/
def execSbcImmediate (v : Byte) (s : State) : Result := readInstr 0xE9 2 (.imm v) sbcEffect s

/-- SBC zero_page, 0xE5, 3 cycles (R204). -/
def execSbcZeroPage (z : Byte) (s : State) : Result := readInstr 0xE5 3 (.mem (.zeroPage z)) sbcEffect s

/-- SBC zero_page_x, 0xF5, 4 cycles (R204). -/
def execSbcZeroPageX (z : Byte) (s : State) : Result := readInstr 0xF5 4 (.mem (.zeroPageX z)) sbcEffect s

/-- SBC absolute, 0xED, 4 cycles (R204). -/
def execSbcAbsolute (a : Word) (s : State) : Result := readInstr 0xED 4 (.mem (.absolute a)) sbcEffect s

/-- SBC absolute_x, 0xFD, 4 cycles (R204). -/
def execSbcAbsoluteX (a : Word) (s : State) : Result := readInstr 0xFD 4 (.mem (.absoluteX a)) sbcEffect s

/-- SBC absolute_y, 0xF9, 4 cycles (R204). -/
def execSbcAbsoluteY (a : Word) (s : State) : Result := readInstr 0xF9 4 (.mem (.absoluteY a)) sbcEffect s

/-- SBC indexed_indirect_x, 0xE1, 6 cycles (R204). -/
def execSbcIndexedIndirectX (z : Byte) (s : State) : Result :=
  readInstr 0xE1 6 (.mem (.indexedIndirectX z)) sbcEffect s

/-- SBC indirect_indexed_y, 0xF1, 5 cycles (R204). -/
def execSbcIndirectIndexedY (z : Byte) (s : State) : Result :=
  readInstr 0xF1 5 (.mem (.indirectIndexedY z)) sbcEffect s

/-- SBC zero_page_indirect, 0xF2, 5 cycles (R204). -/
def execSbcZeroPageIndirect (z : Byte) (s : State) : Result :=
  readInstr 0xF2 5 (.mem (.zeroPageIndirect z)) sbcEffect s

/-- AND immediate, 0x29, 2 cycles (R205). -/
def execAndImmediate (v : Byte) (s : State) : Result := readInstr 0x29 2 (.imm v) andEffect s

/-- AND zero_page, 0x25, 3 cycles (R205). -/
def execAndZeroPage (z : Byte) (s : State) : Result := readInstr 0x25 3 (.mem (.zeroPage z)) andEffect s

/-- AND zero_page_x, 0x35, 4 cycles (R205). -/
def execAndZeroPageX (z : Byte) (s : State) : Result := readInstr 0x35 4 (.mem (.zeroPageX z)) andEffect s

/-- AND absolute, 0x2D, 4 cycles (R205). -/
def execAndAbsolute (a : Word) (s : State) : Result := readInstr 0x2D 4 (.mem (.absolute a)) andEffect s

/-- AND absolute_x, 0x3D, 4 cycles (R205). -/
def execAndAbsoluteX (a : Word) (s : State) : Result := readInstr 0x3D 4 (.mem (.absoluteX a)) andEffect s

/-- AND absolute_y, 0x39, 4 cycles (R205). -/
def execAndAbsoluteY (a : Word) (s : State) : Result := readInstr 0x39 4 (.mem (.absoluteY a)) andEffect s

/-- AND indexed_indirect_x, 0x21, 6 cycles (R205). -/
def execAndIndexedIndirectX (z : Byte) (s : State) : Result :=
  readInstr 0x21 6 (.mem (.indexedIndirectX z)) andEffect s

/-- AND indirect_indexed_y, 0x31, 5 cycles (R205). -/
def execAndIndirectIndexedY (z : Byte) (s : State) : Result :=
  readInstr 0x31 5 (.mem (.indirectIndexedY z)) andEffect s

/-- AND zero_page_indirect, 0x32, 5 cycles (R205). -/
def execAndZeroPageIndirect (z : Byte) (s : State) : Result :=
  readInstr 0x32 5 (.mem (.zeroPageIndirect z)) andEffect s

/-- ORA immediate, 0x09, 2 cycles (R206). -/
def execOraImmediate (v : Byte) (s : State) : Result := readInstr 0x09 2 (.imm v) oraEffect s

/-- ORA zero_page, 0x05, 3 cycles (R206). -/
def execOraZeroPage (z : Byte) (s : State) : Result := readInstr 0x05 3 (.mem (.zeroPage z)) oraEffect s

/-- ORA zero_page_x, 0x15, 4 cycles (R206). -/
def execOraZeroPageX (z : Byte) (s : State) : Result := readInstr 0x15 4 (.mem (.zeroPageX z)) oraEffect s

/-- ORA absolute, 0x0D, 4 cycles (R206). -/
def execOraAbsolute (a : Word) (s : State) : Result := readInstr 0x0D 4 (.mem (.absolute a)) oraEffect s

/-- ORA absolute_x, 0x1D, 4 cycles (R206). -/
def execOraAbsoluteX (a : Word) (s : State) : Result := readInstr 0x1D 4 (.mem (.absoluteX a)) oraEffect s

/-- ORA absolute_y, 0x19, 4 cycles (R206). -/
def execOraAbsoluteY (a : Word) (s : State) : Result := readInstr 0x19 4 (.mem (.absoluteY a)) oraEffect s

/-- ORA indexed_indirect_x, 0x01, 6 cycles (R206). -/
def execOraIndexedIndirectX (z : Byte) (s : State) : Result :=
  readInstr 0x01 6 (.mem (.indexedIndirectX z)) oraEffect s

/-- ORA indirect_indexed_y, 0x11, 5 cycles (R206). -/
def execOraIndirectIndexedY (z : Byte) (s : State) : Result :=
  readInstr 0x11 5 (.mem (.indirectIndexedY z)) oraEffect s

/-- ORA zero_page_indirect, 0x12, 5 cycles (R206). -/
def execOraZeroPageIndirect (z : Byte) (s : State) : Result :=
  readInstr 0x12 5 (.mem (.zeroPageIndirect z)) oraEffect s

/-- EOR immediate, 0x49, 2 cycles (R207). -/
def execEorImmediate (v : Byte) (s : State) : Result := readInstr 0x49 2 (.imm v) eorEffect s

/-- EOR zero_page, 0x45, 3 cycles (R207). -/
def execEorZeroPage (z : Byte) (s : State) : Result := readInstr 0x45 3 (.mem (.zeroPage z)) eorEffect s

/-- EOR zero_page_x, 0x55, 4 cycles (R207). -/
def execEorZeroPageX (z : Byte) (s : State) : Result := readInstr 0x55 4 (.mem (.zeroPageX z)) eorEffect s

/-- EOR absolute, 0x4D, 4 cycles (R207). -/
def execEorAbsolute (a : Word) (s : State) : Result := readInstr 0x4D 4 (.mem (.absolute a)) eorEffect s

/-- EOR absolute_x, 0x5D, 4 cycles (R207). -/
def execEorAbsoluteX (a : Word) (s : State) : Result := readInstr 0x5D 4 (.mem (.absoluteX a)) eorEffect s

/-- EOR absolute_y, 0x59, 4 cycles (R207). -/
def execEorAbsoluteY (a : Word) (s : State) : Result := readInstr 0x59 4 (.mem (.absoluteY a)) eorEffect s

/-- EOR indexed_indirect_x, 0x41, 6 cycles (R207). -/
def execEorIndexedIndirectX (z : Byte) (s : State) : Result :=
  readInstr 0x41 6 (.mem (.indexedIndirectX z)) eorEffect s

/-- EOR indirect_indexed_y, 0x51, 5 cycles (R207). -/
def execEorIndirectIndexedY (z : Byte) (s : State) : Result :=
  readInstr 0x51 5 (.mem (.indirectIndexedY z)) eorEffect s

/-- EOR zero_page_indirect, 0x52, 5 cycles (R207). -/
def execEorZeroPageIndirect (z : Byte) (s : State) : Result :=
  readInstr 0x52 5 (.mem (.zeroPageIndirect z)) eorEffect s

/-- CMP immediate, 0xC9, 2 cycles (R209). -/
def execCmpImmediate (v : Byte) (s : State) : Result := readInstr 0xC9 2 (.imm v) (compareEffect .a) s

/-- CMP zero_page, 0xC5, 3 cycles (R209). -/
def execCmpZeroPage (z : Byte) (s : State) : Result := readInstr 0xC5 3 (.mem (.zeroPage z)) (compareEffect .a) s

/-- CMP zero_page_x, 0xD5, 4 cycles (R209). -/
def execCmpZeroPageX (z : Byte) (s : State) : Result := readInstr 0xD5 4 (.mem (.zeroPageX z)) (compareEffect .a) s

/-- CMP absolute, 0xCD, 4 cycles (R209). -/
def execCmpAbsolute (a : Word) (s : State) : Result := readInstr 0xCD 4 (.mem (.absolute a)) (compareEffect .a) s

/-- CMP absolute_x, 0xDD, 4 cycles (R209). -/
def execCmpAbsoluteX (a : Word) (s : State) : Result := readInstr 0xDD 4 (.mem (.absoluteX a)) (compareEffect .a) s

/-- CMP absolute_y, 0xD9, 4 cycles (R209). -/
def execCmpAbsoluteY (a : Word) (s : State) : Result := readInstr 0xD9 4 (.mem (.absoluteY a)) (compareEffect .a) s

/-- CMP indexed_indirect_x, 0xC1, 6 cycles (R209). -/
def execCmpIndexedIndirectX (z : Byte) (s : State) : Result :=
  readInstr 0xC1 6 (.mem (.indexedIndirectX z)) (compareEffect .a) s

/-- CMP indirect_indexed_y, 0xD1, 5 cycles (R209). -/
def execCmpIndirectIndexedY (z : Byte) (s : State) : Result :=
  readInstr 0xD1 5 (.mem (.indirectIndexedY z)) (compareEffect .a) s

/-- CMP zero_page_indirect, 0xD2, 5 cycles (R209). -/
def execCmpZeroPageIndirect (z : Byte) (s : State) : Result :=
  readInstr 0xD2 5 (.mem (.zeroPageIndirect z)) (compareEffect .a) s

/-- CPX immediate, 0xE0, 2 cycles (R210). -/
def execCpxImmediate (v : Byte) (s : State) : Result := readInstr 0xE0 2 (.imm v) (compareEffect .x) s

/-- CPX zero_page, 0xE4, 3 cycles (R210). -/
def execCpxZeroPage (z : Byte) (s : State) : Result := readInstr 0xE4 3 (.mem (.zeroPage z)) (compareEffect .x) s

/-- CPX absolute, 0xEC, 4 cycles (R210). -/
def execCpxAbsolute (a : Word) (s : State) : Result := readInstr 0xEC 4 (.mem (.absolute a)) (compareEffect .x) s

/-- CPY immediate, 0xC0, 2 cycles (R211). -/
def execCpyImmediate (v : Byte) (s : State) : Result := readInstr 0xC0 2 (.imm v) (compareEffect .y) s

/-- CPY zero_page, 0xC4, 3 cycles (R211). -/
def execCpyZeroPage (z : Byte) (s : State) : Result := readInstr 0xC4 3 (.mem (.zeroPage z)) (compareEffect .y) s

/-- CPY absolute, 0xCC, 4 cycles (R211). -/
def execCpyAbsolute (a : Word) (s : State) : Result := readInstr 0xCC 4 (.mem (.absolute a)) (compareEffect .y) s

/-- BIT zero_page, 0x24, 3 cycles (R212). -/
def execBitZeroPage (z : Byte) (s : State) : Result := readInstr 0x24 3 (.mem (.zeroPage z)) bitEffect s

/-- BIT absolute, 0x2C, 4 cycles (R212). -/
def execBitAbsolute (a : Word) (s : State) : Result := readInstr 0x2C 4 (.mem (.absolute a)) bitEffect s

end Sys2Proof.Machine
end

