-- ==== Sys2Proof/Machine/Control.lean ====
section
/-! DEFINITION. Branches, jumps, calls, returns and BRK (45_control_transfer.md R260 to R274). -/

namespace Sys2Proof.Machine

/-- `Branch(cond)` (R260): when taken, the offset is added to the post-fetch PC, and the adjustment is 1, or 2 when the
target's high nibble differs from the post-fetch PC's (D12). -/
def branchEffect (cond : State → Bool) (r : Byte) (s : State) : Eff Completion :=
  let target := s.pc + sext16 r
  if cond s then .ok { adjBranch := 1 + cross s.pc target } (s.setPc target) else .ok {} s

/-- A branch instruction. -/
def branchInstr (op : Byte) (base : Nat) (cond : State → Bool) (r : Byte) (s : State) : Result :=
  instruction op base 2 0 (branchEffect cond r) s

/-- BCC relative, 0x90, 2 cycles (R261). -/
def execBcc (r : Byte) (s : State) : Result := branchInstr 0x90 2 (fun s1 => !s1.flag .c) r s

/-- BCS relative, 0xB0, 2 cycles (R262). -/
def execBcs (r : Byte) (s : State) : Result := branchInstr 0xB0 2 (fun s1 => s1.flag .c) r s

/-- BEQ relative, 0xF0, 2 cycles (R263). -/
def execBeq (r : Byte) (s : State) : Result := branchInstr 0xF0 2 (fun s1 => s1.flag .z) r s

/-- BMI relative, 0x30, 2 cycles (R264). -/
def execBmi (r : Byte) (s : State) : Result := branchInstr 0x30 2 (fun s1 => s1.flag .n) r s

/-- BNE relative, 0xD0, 2 cycles (R265). -/
def execBne (r : Byte) (s : State) : Result := branchInstr 0xD0 2 (fun s1 => !s1.flag .z) r s

/-- BPL relative, 0x10, 2 cycles (R266). -/
def execBpl (r : Byte) (s : State) : Result := branchInstr 0x10 2 (fun s1 => !s1.flag .n) r s

/-- BVC relative, 0x50, 2 cycles (R267). -/
def execBvc (r : Byte) (s : State) : Result := branchInstr 0x50 2 (fun s1 => !s1.flag .v) r s

/-- BVS relative, 0x70, 2 cycles (R268). -/
def execBvs (r : Byte) (s : State) : Result := branchInstr 0x70 2 (fun s1 => s1.flag .v) r s

/-- BRA relative, 0x80, 2 cycles (R269). -/
def execBra (r : Byte) (s : State) : Result := branchInstr 0x80 2 (fun _ => true) r s

/-- A jump to the effective address of its form (R270). -/
def jumpInstr (op : Byte) (base : Nat) (m : AddrForm) (s : State) : Result :=
  instruction op base m.length (m.adj s) (fun s1 => .ok {} (s1.setPc (m.ea s1))) s

/-- JMP absolute, 0x4C, 3 cycles (R270). -/
def execJmpAbsolute (a : Word) (s : State) : Result := jumpInstr 0x4C 3 (.absolute a) s

/-- JMP indirect, 0x6C, 5 cycles (R270). -/
def execJmpIndirect (p : Word) (s : State) : Result := jumpInstr 0x6C 5 (.indirect p) s

/-- The rule of JSR (R271): the address of its own last byte is pushed, high byte first, the shadow stack is told the target
and SP before the pushes (D22), and PC becomes the target. -/
def jsrEffect (pc0 target : Word) (s : State) : Eff Completion :=
  let ret := s.pc - 1
  (push pc0 (highByte ret) s).bind fun _ s1 =>
    (push pc0 (lowByte ret) s1).bind fun _ s2 =>
      .ok { call := .jsr target } ((shadowCall target s.sp s2).setPc target)

/-- JSR absolute, 0x20, 6 cycles (R271). -/
def execJsr (a : Word) (s : State) : Result := instruction 0x20 6 3 0 (jsrEffect s.pc a) s

/-- The rule of RTS (R272): the low and the high byte are popped, PC becomes their word plus one, and the shadow stack is
told SP before the pops. -/
def rtsEffect (s : State) : Eff Completion :=
  (pop s).bind fun lo s1 => (pop s1).bind fun hi s2 =>
    .ok { call := .rts } (shadowReturn s.sp (s2.setPc (wordOf hi lo + 1)))

/-- RTS implied, 0x60, 6 cycles (R272). -/
def execRts (s : State) : Result := instruction 0x60 6 1 0 rtsEffect s

/-- RTI implied, 0x40, 6 cycles (R273). -/
def execRti (s : State) : Result := stackInstr 0x40 6 (fun _ => pullStatusAndPc) s

/-- BRK, 0x00 (R274): its effect is to raise UnimplementedOpcode; its 7 base cycles are never charged. -/
def execBrk (s : State) : Result :=
  instruction 0x00 7 1 0 (fun s1 => .fatal .unimplementedOpcode s1) s

end Sys2Proof.Machine
end

