-- ==== Sys2Proof/Machine/LoadStore.lean ====
section
/-! DEFINITION. Loads, stores and register transfers (42_load_store_transfer.md R170 to R182). -/

namespace Sys2Proof.Machine

/-! ### Loads -/

/-- LDA immediate, 0xA9, 2 cycles (R170). -/
def execLdaImmediate (v : Byte) (s : State) : Result := readInstr 0xA9 2 (.imm v) (loadReg .a) s

/-- LDA zero_page, 0xA5, 3 cycles (R170). -/
def execLdaZeroPage (z : Byte) (s : State) : Result := readInstr 0xA5 3 (.mem (.zeroPage z)) (loadReg .a) s

/-- LDA zero_page_x, 0xB5, 4 cycles (R170). -/
def execLdaZeroPageX (z : Byte) (s : State) : Result := readInstr 0xB5 4 (.mem (.zeroPageX z)) (loadReg .a) s

/-- LDA absolute, 0xAD, 4 cycles (R170). -/
def execLdaAbsolute (a : Word) (s : State) : Result := readInstr 0xAD 4 (.mem (.absolute a)) (loadReg .a) s

/-- LDA absolute_x, 0xBD, 4 cycles (R170). -/
def execLdaAbsoluteX (a : Word) (s : State) : Result := readInstr 0xBD 4 (.mem (.absoluteX a)) (loadReg .a) s

/-- LDA absolute_y, 0xB9, 4 cycles (R170). -/
def execLdaAbsoluteY (a : Word) (s : State) : Result := readInstr 0xB9 4 (.mem (.absoluteY a)) (loadReg .a) s

/-- LDA indexed_indirect_x, 0xA1, 6 cycles (R170). -/
def execLdaIndexedIndirectX (z : Byte) (s : State) : Result :=
  readInstr 0xA1 6 (.mem (.indexedIndirectX z)) (loadReg .a) s

/-- LDA indirect_indexed_y, 0xB1, 5 cycles (R170). -/
def execLdaIndirectIndexedY (z : Byte) (s : State) : Result :=
  readInstr 0xB1 5 (.mem (.indirectIndexedY z)) (loadReg .a) s

/-- LDA zero_page_indirect, 0xB2, 5 cycles (R170). -/
def execLdaZeroPageIndirect (z : Byte) (s : State) : Result :=
  readInstr 0xB2 5 (.mem (.zeroPageIndirect z)) (loadReg .a) s

/-- LDX immediate, 0xA2, 2 cycles (R171). -/
def execLdxImmediate (v : Byte) (s : State) : Result := readInstr 0xA2 2 (.imm v) (loadReg .x) s

/-- LDX zero_page, 0xA6, 3 cycles (R171). -/
def execLdxZeroPage (z : Byte) (s : State) : Result := readInstr 0xA6 3 (.mem (.zeroPage z)) (loadReg .x) s

/-- LDX zero_page_y, 0xB6, 4 cycles (R171). -/
def execLdxZeroPageY (z : Byte) (s : State) : Result := readInstr 0xB6 4 (.mem (.zeroPageY z)) (loadReg .x) s

/-- LDX absolute, 0xAE, 4 cycles (R171). -/
def execLdxAbsolute (a : Word) (s : State) : Result := readInstr 0xAE 4 (.mem (.absolute a)) (loadReg .x) s

/-- LDX absolute_y, 0xBE, 4 cycles (R171). -/
def execLdxAbsoluteY (a : Word) (s : State) : Result := readInstr 0xBE 4 (.mem (.absoluteY a)) (loadReg .x) s

/-- LDY immediate, 0xA0, 2 cycles (R172). -/
def execLdyImmediate (v : Byte) (s : State) : Result := readInstr 0xA0 2 (.imm v) (loadReg .y) s

/-- LDY zero_page, 0xA4, 3 cycles (R172). -/
def execLdyZeroPage (z : Byte) (s : State) : Result := readInstr 0xA4 3 (.mem (.zeroPage z)) (loadReg .y) s

/-- LDY zero_page_x, 0xB4, 4 cycles (R172). -/
def execLdyZeroPageX (z : Byte) (s : State) : Result := readInstr 0xB4 4 (.mem (.zeroPageX z)) (loadReg .y) s

/-- LDY absolute, 0xAC, 4 cycles (R172). -/
def execLdyAbsolute (a : Word) (s : State) : Result := readInstr 0xAC 4 (.mem (.absolute a)) (loadReg .y) s

/-- LDY absolute_x, 0xBC, 4 cycles (R172). -/
def execLdyAbsoluteX (a : Word) (s : State) : Result := readInstr 0xBC 4 (.mem (.absoluteX a)) (loadReg .y) s

/-! ### Stores -/

/-- STA zero_page, 0x85, 3 cycles (R173). -/
def execStaZeroPage (z : Byte) (s : State) : Result := storeInstr 0x85 3 (.zeroPage z) State.a s

/-- STA zero_page_x, 0x95, 4 cycles (R173). -/
def execStaZeroPageX (z : Byte) (s : State) : Result := storeInstr 0x95 4 (.zeroPageX z) State.a s

/-- STA absolute, 0x8D, 4 cycles (R173). -/
def execStaAbsolute (a : Word) (s : State) : Result := storeInstr 0x8D 4 (.absolute a) State.a s

/-- STA absolute_x, 0x9D, 5 cycles (R173). -/
def execStaAbsoluteX (a : Word) (s : State) : Result := storeInstr 0x9D 5 (.absoluteX a) State.a s

/-- STA absolute_y, 0x99, 5 cycles (R173). -/
def execStaAbsoluteY (a : Word) (s : State) : Result := storeInstr 0x99 5 (.absoluteY a) State.a s

/-- STA indexed_indirect_x, 0x81, 6 cycles (R173). -/
def execStaIndexedIndirectX (z : Byte) (s : State) : Result := storeInstr 0x81 6 (.indexedIndirectX z) State.a s

/-- STA indirect_indexed_y, 0x91, 6 cycles (R173). -/
def execStaIndirectIndexedY (z : Byte) (s : State) : Result := storeInstr 0x91 6 (.indirectIndexedY z) State.a s

/-- STA zero_page_indirect, 0x92, 5 cycles (R173). -/
def execStaZeroPageIndirect (z : Byte) (s : State) : Result := storeInstr 0x92 5 (.zeroPageIndirect z) State.a s

/-- STX zero_page, 0x86, 3 cycles (R174). -/
def execStxZeroPage (z : Byte) (s : State) : Result := storeInstr 0x86 3 (.zeroPage z) State.x s

/-- STX zero_page_y, 0x96, 4 cycles (R174). -/
def execStxZeroPageY (z : Byte) (s : State) : Result := storeInstr 0x96 4 (.zeroPageY z) State.x s

/-- STX absolute, 0x8E, 4 cycles (R174). -/
def execStxAbsolute (a : Word) (s : State) : Result := storeInstr 0x8E 4 (.absolute a) State.x s

/-- STY zero_page, 0x84, 3 cycles (R175). -/
def execStyZeroPage (z : Byte) (s : State) : Result := storeInstr 0x84 3 (.zeroPage z) State.y s

/-- STY zero_page_x, 0x94, 4 cycles (R175). -/
def execStyZeroPageX (z : Byte) (s : State) : Result := storeInstr 0x94 4 (.zeroPageX z) State.y s

/-- STY absolute, 0x8C, 4 cycles (R175). -/
def execStyAbsolute (a : Word) (s : State) : Result := storeInstr 0x8C 4 (.absolute a) State.y s

/-- STZ zero_page, 0x64, 3 cycles (R176). -/
def execStzZeroPage (z : Byte) (s : State) : Result := storeInstr 0x64 3 (.zeroPage z) (fun _ => 0x00) s

/-- STZ zero_page_x, 0x74, 4 cycles (R176). -/
def execStzZeroPageX (z : Byte) (s : State) : Result := storeInstr 0x74 4 (.zeroPageX z) (fun _ => 0x00) s

/-- STZ absolute, 0x9C, 4 cycles (R176). -/
def execStzAbsolute (a : Word) (s : State) : Result := storeInstr 0x9C 4 (.absolute a) (fun _ => 0x00) s

/-- STZ absolute_x, 0x9E, 5 cycles (R176). -/
def execStzAbsoluteX (a : Word) (s : State) : Result := storeInstr 0x9E 5 (.absoluteX a) (fun _ => 0x00) s

/-! ### Register transfers -/

/-- TAX implied, 0xAA, 2 cycles (R177). -/
def execTax (s : State) : Result := impliedInstr 0xAA 2 (fun s1 => loadReg .x s1.a s1) s

/-- TAY implied, 0xA8, 2 cycles (R178). -/
def execTay (s : State) : Result := impliedInstr 0xA8 2 (fun s1 => loadReg .y s1.a s1) s

/-- TXA implied, 0x8A, 2 cycles (R179). -/
def execTxa (s : State) : Result := impliedInstr 0x8A 2 (fun s1 => loadReg .a s1.x s1) s

/-- TYA implied, 0x98, 2 cycles (R180). -/
def execTya (s : State) : Result := impliedInstr 0x98 2 (fun s1 => loadReg .a s1.y s1) s

/-- TSX implied, 0xBA, 2 cycles (R181). -/
def execTsx (s : State) : Result := impliedInstr 0xBA 2 (fun s1 => loadReg .x s1.sp s1) s

/-- TXS implied, 0x9A, 2 cycles (R182). -/
def execTxs (s : State) : Result := impliedInstr 0x9A 2 (fun s1 => s1.setSp s1.x) s

end Sys2Proof.Machine
end

