-- ==== Sys2Proof/Machine/Shift.lean ====
section
/-! DEFINITION. Shifts, rotates, increments and decrements (44_shift_incdec.md R230 to R242). -/

namespace Sys2Proof.Machine

/-- ASL accumulator, 0x0A, 2 cycles (R231). -/
def execAslAccumulator (s : State) : Result := modifyInstr 0x0A 2 .acc aslResult s

/-- ASL zero_page, 0x06, 5 cycles (R231). -/
def execAslZeroPage (z : Byte) (s : State) : Result := modifyInstr 0x06 5 (.mem (.zeroPage z)) aslResult s

/-- ASL zero_page_x, 0x16, 6 cycles (R231). -/
def execAslZeroPageX (z : Byte) (s : State) : Result := modifyInstr 0x16 6 (.mem (.zeroPageX z)) aslResult s

/-- ASL absolute, 0x0E, 6 cycles (R231). -/
def execAslAbsolute (a : Word) (s : State) : Result := modifyInstr 0x0E 6 (.mem (.absolute a)) aslResult s

/-- ASL absolute_x, 0x1E, 7 cycles (R231). -/
def execAslAbsoluteX (a : Word) (s : State) : Result := modifyInstr 0x1E 7 (.mem (.absoluteX a)) aslResult s

/-- LSR accumulator, 0x4A, 2 cycles (R232). -/
def execLsrAccumulator (s : State) : Result := modifyInstr 0x4A 2 .acc lsrResult s

/-- LSR zero_page, 0x46, 5 cycles (R232). -/
def execLsrZeroPage (z : Byte) (s : State) : Result := modifyInstr 0x46 5 (.mem (.zeroPage z)) lsrResult s

/-- LSR zero_page_x, 0x56, 6 cycles (R232). -/
def execLsrZeroPageX (z : Byte) (s : State) : Result := modifyInstr 0x56 6 (.mem (.zeroPageX z)) lsrResult s

/-- LSR absolute, 0x4E, 6 cycles (R232). -/
def execLsrAbsolute (a : Word) (s : State) : Result := modifyInstr 0x4E 6 (.mem (.absolute a)) lsrResult s

/-- LSR absolute_x, 0x5E, 7 cycles (R232). -/
def execLsrAbsoluteX (a : Word) (s : State) : Result := modifyInstr 0x5E 7 (.mem (.absoluteX a)) lsrResult s

/-- ROL accumulator, 0x2A, 2 cycles (R233). -/
def execRolAccumulator (s : State) : Result := modifyInstr 0x2A 2 .acc rolResult s

/-- ROL zero_page, 0x26, 5 cycles (R233). -/
def execRolZeroPage (z : Byte) (s : State) : Result := modifyInstr 0x26 5 (.mem (.zeroPage z)) rolResult s

/-- ROL zero_page_x, 0x36, 6 cycles (R233). -/
def execRolZeroPageX (z : Byte) (s : State) : Result := modifyInstr 0x36 6 (.mem (.zeroPageX z)) rolResult s

/-- ROL absolute, 0x2E, 6 cycles (R233). -/
def execRolAbsolute (a : Word) (s : State) : Result := modifyInstr 0x2E 6 (.mem (.absolute a)) rolResult s

/-- ROL absolute_x, 0x3E, 7 cycles (R233). -/
def execRolAbsoluteX (a : Word) (s : State) : Result := modifyInstr 0x3E 7 (.mem (.absoluteX a)) rolResult s

/-- ROR accumulator, 0x6A, 2 cycles (R234). -/
def execRorAccumulator (s : State) : Result := modifyInstr 0x6A 2 .acc rorResult s

/-- ROR zero_page, 0x66, 5 cycles (R234). -/
def execRorZeroPage (z : Byte) (s : State) : Result := modifyInstr 0x66 5 (.mem (.zeroPage z)) rorResult s

/-- ROR zero_page_x, 0x76, 6 cycles (R234). -/
def execRorZeroPageX (z : Byte) (s : State) : Result := modifyInstr 0x76 6 (.mem (.zeroPageX z)) rorResult s

/-- ROR absolute, 0x6E, 6 cycles (R234). -/
def execRorAbsolute (a : Word) (s : State) : Result := modifyInstr 0x6E 6 (.mem (.absolute a)) rorResult s

/-- ROR absolute_x, 0x7E, 7 cycles (R234). -/
def execRorAbsoluteX (a : Word) (s : State) : Result := modifyInstr 0x7E 7 (.mem (.absoluteX a)) rorResult s

/-- INC zero_page, 0xE6, 5 cycles (R235). -/
def execIncZeroPage (z : Byte) (s : State) : Result := modifyInstr 0xE6 5 (.mem (.zeroPage z)) incResult s

/-- INC zero_page_x, 0xF6, 6 cycles (R235). -/
def execIncZeroPageX (z : Byte) (s : State) : Result := modifyInstr 0xF6 6 (.mem (.zeroPageX z)) incResult s

/-- INC absolute, 0xEE, 6 cycles (R235). -/
def execIncAbsolute (a : Word) (s : State) : Result := modifyInstr 0xEE 6 (.mem (.absolute a)) incResult s

/-- INC absolute_x, 0xFE, 7 cycles (R235). -/
def execIncAbsoluteX (a : Word) (s : State) : Result := modifyInstr 0xFE 7 (.mem (.absoluteX a)) incResult s

/-- DEC zero_page, 0xC6, 5 cycles (R236). -/
def execDecZeroPage (z : Byte) (s : State) : Result := modifyInstr 0xC6 5 (.mem (.zeroPage z)) decResult s

/-- DEC zero_page_x, 0xD6, 6 cycles (R236). -/
def execDecZeroPageX (z : Byte) (s : State) : Result := modifyInstr 0xD6 6 (.mem (.zeroPageX z)) decResult s

/-- DEC absolute, 0xCE, 6 cycles (R236). -/
def execDecAbsolute (a : Word) (s : State) : Result := modifyInstr 0xCE 6 (.mem (.absolute a)) decResult s

/-- DEC absolute_x, 0xDE, 7 cycles (R236). -/
def execDecAbsoluteX (a : Word) (s : State) : Result := modifyInstr 0xDE 7 (.mem (.absoluteX a)) decResult s

/-- INX implied, 0xE8, 2 cycles (R237). -/
def execInx (s : State) : Result := impliedInstr 0xE8 2 (fun s1 => loadReg .x (s1.x + 1) s1) s

/-- INY implied, 0xC8, 2 cycles (R238). -/
def execIny (s : State) : Result := impliedInstr 0xC8 2 (fun s1 => loadReg .y (s1.y + 1) s1) s

/-- DEX implied, 0xCA, 2 cycles (R239). -/
def execDex (s : State) : Result := impliedInstr 0xCA 2 (fun s1 => loadReg .x (s1.x - 1) s1) s

/-- DEY implied, 0x88, 2 cycles (R240). -/
def execDey (s : State) : Result := impliedInstr 0x88 2 (fun s1 => loadReg .y (s1.y - 1) s1) s

/-- INA accumulator, 0x1A, 2 cycles (R241). -/
def execIna (s : State) : Result := impliedInstr 0x1A 2 (fun s1 => loadReg .a (s1.a + 1) s1) s

/-- DEA accumulator, 0x3A, 2 cycles (R242). -/
def execDea (s : State) : Result := impliedInstr 0x3A 2 (fun s1 => loadReg .a (s1.a - 1) s1) s

end Sys2Proof.Machine
end

