-- ==== Sys2Proof/Machine/Stack.lean ====
section
/-! DEFINITION. Stack, flag and no-operation instructions (46_stack_flags_misc.md R290 to R305). -/

namespace Sys2Proof.Machine

/-- The byte PHP pushes (R291): P, with bit 4 set when PHP_B is force_set (D15). -/
def phpByte (rule : PhpB) (p : Byte) : Byte :=
  match rule with
  | .asHeld => p
  | .forceSet => p ||| 0x10

/-- The rule of PLA, PLX and PLY (R294, R296, R297): the popped byte goes to a register and to Z and N. -/
def pullReg (r : Reg) (s : State) : Eff Unit := (pop s).bind fun v s1 => .ok () (loadReg r v s1)

/-- The rule of PLP (R295): P from the popped byte with bit 5 forced to 1 (D16). -/
def pullStatus (s : State) : Eff Unit := (pop s).bind fun v s1 => .ok () (s1.setP (v ||| 0x20))

/-- PHA implied, 0x48, 3 cycles (R290). -/
def execPha (s : State) : Result := stackInstr 0x48 3 (fun pc0 s1 => push pc0 s1.a s1) s

/-- PHP implied, 0x08, 3 cycles (R291). -/
def execPhp (s : State) : Result := stackInstr 0x08 3 (fun pc0 s1 => push pc0 (phpByte s1.cfg.phpB s1.p) s1) s

/-- PHX implied, 0xDA, 3 cycles (R292). -/
def execPhx (s : State) : Result := stackInstr 0xDA 3 (fun pc0 s1 => push pc0 s1.x s1) s

/-- PHY implied, 0x5A, 3 cycles (R293). -/
def execPhy (s : State) : Result := stackInstr 0x5A 3 (fun pc0 s1 => push pc0 s1.y s1) s

/-- PLA implied, 0x68, 4 cycles (R294). -/
def execPla (s : State) : Result := stackInstr 0x68 4 (fun _ => pullReg .a) s

/-- PLP implied, 0x28, 4 cycles (R295). -/
def execPlp (s : State) : Result := stackInstr 0x28 4 (fun _ => pullStatus) s

/-- PLX implied, 0xFA, 4 cycles (R296). -/
def execPlx (s : State) : Result := stackInstr 0xFA 4 (fun _ => pullReg .x) s

/-- PLY implied, 0x7A, 4 cycles (R297). -/
def execPly (s : State) : Result := stackInstr 0x7A 4 (fun _ => pullReg .y) s

/-- CLC implied, 0x18, 2 cycles (R298). -/
def execClc (s : State) : Result := impliedInstr 0x18 2 (fun s1 => s1.setFlag .c false) s

/-- SEC implied, 0x38, 2 cycles (R299). -/
def execSec (s : State) : Result := impliedInstr 0x38 2 (fun s1 => s1.setFlag .c true) s

/-- CLI implied, 0x58, 2 cycles (R300). -/
def execCli (s : State) : Result := impliedInstr 0x58 2 (fun s1 => s1.setFlag .i false) s

/-- SEI implied, 0x78, 2 cycles (R301). -/
def execSei (s : State) : Result := impliedInstr 0x78 2 (fun s1 => s1.setFlag .i true) s

/-- CLD implied, 0xD8, 2 cycles (R302). -/
def execCld (s : State) : Result := impliedInstr 0xD8 2 (fun s1 => s1.setFlag .d false) s

/-- SED implied, 0xF8, 2 cycles (R303). -/
def execSed (s : State) : Result := impliedInstr 0xF8 2 (fun s1 => s1.setFlag .d true) s

/-- CLV implied, 0xB8, 2 cycles (R304). -/
def execClv (s : State) : Result := impliedInstr 0xB8 2 (fun s1 => s1.setFlag .v false) s

/-- NOP implied, 0xEA, 2 cycles (R305). -/
def execNop (s : State) : Result := impliedInstr 0xEA 2 (fun s1 => s1) s

end Sys2Proof.Machine
end

