-- ==== Sys2Proof/Machine/Watch.lean ====
section
/-! DEFINITION. The watch engine (47_tracer_profiler.md R327 to R330): it reads the core and emits records. -/

namespace Sys2Proof.Machine

/-- The byte a watch with an 8-bit width samples (R329). -/
def watchByte (o : WatchSource) (s : State) : Byte :=
  match o with
  | .mem addr => memRead s addr
  | .reg r => s.reg r

/-- The word a watch with a 16-bit width samples (R329): the little-endian word at its address. A register source is
rejected when the table is loaded (R327, `Watch.accepted`), so no run samples one here. -/
def watchWord (o : WatchSource) (s : State) : Word :=
  match o with
  | .mem addr => memRead16 s addr
  | .reg r => zext16 (s.reg r)

/-- A watch's value (R329). -/
def watchValue (w : Watch) (s : State) : Int :=
  match w.width with
  | .u8 => (watchByte w.source s).toNat
  | .s8 => (watchByte w.source s).toInt
  | .u16 => (watchWord w.source s).toNat
  | .s16 => (watchWord w.source s).toInt

/-- Samples grouped into records: neighbours with one index share a record, and a new one starts whenever the index changes
(R330). -/
def groupSamples : List (Nat × Int) → List (Nat × List Int)
  | [] => []
  | (i, v) :: t =>
    match groupSamples t with
    | (j, vs) :: g => if i = j then (i, v :: vs) :: g else (i, [v]) :: (j, vs) :: g
    | [] => [(i, [v])]

/-- The watches of a phase at an address, in table order (R328). -/
def watchesAt (phase : WatchPhase) (pc0 : Word) (ws : List Watch) : List Watch :=
  ws.filter fun w => w.pc == pc0 && w.phase == phase

/-- The records `Watch(phase, pc0)` emits (R328, R330). -/
def watchRecords (phase : WatchPhase) (pc0 : Word) (s : State) : List Event :=
  (groupSamples ((watchesAt phase pc0 s.cfg.watches).map fun w => (w.index, watchValue w s))).map fun g =>
    .watch (enclosingRoutine s) g.1 s.cyc g.2

/-- `Watch(phase, pc0)` (R328). -/
def watch (phase : WatchPhase) (pc0 : Word) (s : State) : State := s.emit (watchRecords phase pc0 s)

end Sys2Proof.Machine
end

