-- ==== Sys2Proof/Machine/Run.lean ====
section
/-! DEFINITION. The run loop around an instruction (40_step.md R120, R126 to R130): the instruction boundary with the quit
signal and the frame limit, the fetch and decode, the decode error, and the post-phase watch. -/

namespace Sys2Proof.Machine

/-- The host's quit signal at an instruction boundary (R127, D39; log 7): the boundary's entry is taken from the list, and a
`true` stops the run. -/
def pollQuit (s : State) : State :=
  match s.hostQuit with
  | [] => s
  | quit :: later =>
    { s with hostQuit := later, run := if quit then .stopped .quit else s.run }

/-- `FrameBoundary(pc0)` (R130, D24): with FRAME_ADDR and FRAME_LIMIT set, a pass through FRAME_ADDR is counted, and the run
stops when the count reaches the limit. -/
def frameBoundary (s : State) : State :=
  match s.cfg.frameAddr, s.cfg.frameLimit with
  | some addr, some limit =>
    if s.pc = addr then
      { s with
        frames := s.frames + 1
        run := if s.frames + 1 = limit then .stopped .frameLimit else s.run }
    else s
  | _, _ => s

/-- What happens at an instruction boundary before the fetch: the ports hold nothing of the step to come (log 8), then the
quit signal, then, if the run goes on, the frame limit (R359). -/
def boundary (s : State) : State :=
  let s0 := pollQuit { s with port := [] }
  match s0.run with
  | .running => frameBoundary s0
  | .stopped _ | .fatal _ _ _ => s0

/-- The bytes of the longest instruction that can stand at PC, wrapping from 0xFFFF to 0x0000 (R121). A read changes nothing
(20_memory.md R61), so reading a byte the instruction turns out not to have changes nothing either. -/
def fetchBytes (s : State) : List Byte := [memRead s s.pc, memRead s (s.pc + 1), memRead s (s.pc + 2)]

/-- The instruction at PC, if its opcode byte has an entry (30_encoding.md R94, R97). -/
def fetchInstr (s : State) : Option Instr := (decode s.cfg.zpiOps (fetchBytes s)).instr?

/-- The opcode fetch of an undefined byte (30_encoding.md R97, 60_exceptions.md R352): PC moves past the opcode byte alone and
DecodeError is raised. -/
def decodeError (s : State) : State :=
  raiseFatal .decodeError s.pc (memRead s s.pc) (s.setPc (s.pc + 1))

/-- The post-phase watch of the instruction at `pc0` (47_tracer_profiler.md R328): after a completed instruction, and not
after a fatal error. -/
def finishStep (pc0 : Word) : Result → Result
  | .next t =>
    match t.run with
    | .running => .next (watch .post pc0 t)
    | .stopped _ | .fatal _ _ _ => .next t
  | .fault r => .fault r
  | .refused r => .refused r

/-- `s` with bytes stored from an address on, wrapping at the top of memory, as a load does: no event is emitted. -/
def placeBytes (addr : Word) : List Byte → State → State
  | [], s => s
  | b :: rest, s => placeBytes (addr + 1) rest { s with mem := cellPut s.mem addr.toNat b }

end Sys2Proof.Machine
end

