-- ==== Sys2Proof/Machine/Step.lean ====
section
/-! DEFINITION. One step (40_step.md R120), and the state in which a given instruction is fetched next. -/

namespace Sys2Proof.Machine

/-- One step: the instruction boundary; if the run goes on, the pre-phase watch, the fetch, and the instruction or a decode
error; after a completed instruction the post-phase watch. A run that has ended takes no step (R128). -/
def step (s : State) : Host.Outcome State Fault Refusal :=
  match s.run with
  | .running =>
    let s0 := boundary s
    match s0.run with
    | .running =>
      let s1 := watch .pre s0.pc s0
      match fetchInstr s1 with
      | some i => finishStep s0.pc (exec i s1)
      | none => .next (decodeError s1)
    | .stopped _ | .fatal _ _ _ => .next s0
  | .stopped r => .fault (.runEnded (.stopped r))
  | .fatal k addr byte => .fault (.runEnded (.fatal k addr byte))

/-- `s` with the instruction whose table bits are `w` stored at PC, where `step` fetches. -/
def State.withFetchWord (s : State) (nbits w : Nat) : State := placeBytes s.pc (tableBytes nbits w) s

end Sys2Proof.Machine
end

