-- ==== Sys2Proof/Machine/Setup.lean ====
section
/-! DEFINITION. The setup of a run by the host, before its first step (70_reset_and_hazards.md R380 to R382). -/

namespace Sys2Proof.Machine

/-- `LoadImage(IMAGE, LOAD_BASE)` (R381, D27): byte `i` goes to `LOAD_BASE + i`, and bytes past 0xFFFF are dropped. -/
def loadImage : List Byte → Nat → Memory → Memory
  | [], _, m => m
  | b :: rest, addr, m => if addr ≤ 0xFFFF then loadImage rest (addr + 1) (cellPut m addr b) else m

/-- The setup of a run (R380) with parameters and watch table `cfg`, START_ADDR, LOAD_BASE and IMAGE, where no image stands
for an image file that cannot be read (R382: RUN is Fatal(IOError) and no step is taken). A malformed watch table gives
`none`: it is rejected at load time, so no run exists (60_exceptions.md R357). -/
def setup (cfg : Params) (startAddr loadBase : Word) (image : Option (List Byte)) : Option State :=
  match image with
  | none =>
    some { State.reset with
      cfg := cfg, pc := startAddr, run := .fatal .ioError none none, port := [.error none .ioError] }
  | some bytes =>
    if cfg.watches.all Watch.accepted then
      some { State.reset with cfg := cfg, pc := startAddr, mem := loadImage bytes loadBase.toNat [] }
    else none

end Sys2Proof.Machine
end

