-- ==== Sys2Proof/Safety.lean ====
section
/-! DEFINITION. The words of the statements: the invariant of the machine, how a run can end, running a list of instructions,
what an instruction keeps, the part of a state a program can observe, and the forms of each instruction with their
opcode bytes and base cycles (30_encoding.md R96). -/

namespace Sys2Proof.Machine

/-! ### States and runs -/

/-- The invariant: memory and counter tables in canonical form; bit 5 of P set (10_state.md R31); at most SHADOW_DEPTH shadow
frames (R39), each with a recorded SP of at least 2 (47_tracer_profiler.md R323). -/
structure State.Inv (s : State) : Prop where
  mem : Memory.wf s.mem = true
  rcyc : Counters.wf s.rcyc = true
  rcalls : Counters.wf s.rcalls = true
  bit5 : s.flag .u = true
  depth : s.shadow.length ≤ s.cfg.shadowDepth
  frames : ∀ f ∈ s.shadow, 2 ≤ f.sp.toNat

/-- The run has ended in a fatal error (60_exceptions.md R350). -/
def State.isFatal (s : State) : Bool :=
  match s.run with
  | .fatal _ _ _ => true
  | .running | .stopped _ => false

/-- The run is complete: the only final state of 40_step.md R131. -/
def State.isFinal (s : State) : Bool := s.run == .stopped .frameLimit

/-- Run a list of instructions one after the other, without fetching them, as long as each completes: `none` once one of
them raises a fatal error. -/
def execAll : List Instr → State → Option State
  | [], s => some s
  | i :: rest, s =>
    match exec i s with
    | .next t => if t.run = .running then execAll rest t else none
    | .fault _ | .refused _ => none

/-- The parameters an instruction's effect on registers and memory can depend on (00_scope.md R9): every one but the watch
table, the frame limit, the shadow stack's depth and the two of the ports. -/
structure Params.SameCore (p q : Params) : Prop where
  zpIndexWrap : p.zpIndexWrap = q.zpIndexWrap
  zpPtrHi : p.zpPtrHi = q.zpPtrHi
  jmpIndWrap : p.jmpIndWrap = q.jmpIndWrap
  zpiOps : p.zpiOps = q.zpiOps
  bcdAdc : p.bcdAdc = q.bcdAdc
  bcdSbc : p.bcdSbc = q.bcdSbc
  phpB : p.phpB = q.phpB

/-- Two states that differ at most in CYC, the profiler, FRAMES, the watch table and the other observers' settings, the host's
quit signals and the ports: what a program can observe is the same in both (10_state.md R42). -/
structure State.SameCore (s t : State) : Prop where
  a : s.a = t.a
  x : s.x = t.x
  y : s.y = t.y
  sp : s.sp = t.sp
  p : s.p = t.p
  pc : s.pc = t.pc
  mem : s.mem = t.mem
  run : s.run = t.run
  cfg : Params.SameCore s.cfg t.cfg

/-! ### What an instruction keeps -/

/-- The accounting of a completed instruction (40_step.md R125, 47_tracer_profiler.md R325): the cost is added to CYC and to
the routine of the top shadow frame, if there is one; RUN, FRAMES, the configuration and the host's input are kept. -/
structure Accounted (s t : State) (cost : Nat) : Prop where
  run : t.run = s.run
  frames : t.frames = s.frames
  cfg : t.cfg = s.cfg
  hostQuit : t.hostQuit = s.hostQuit
  cyc : t.cyc = s.cyc + BitVec.ofNat 64 cost
  rcyc : ∀ k : Word, cellGet t.rcyc k.toNat =
    if t.shadow.head?.map (·.target) = some k then cellGet s.rcyc k.toNat + BitVec.ofNat 64 cost
    else cellGet s.rcyc k.toNat

/-- A completed instruction of `len` bytes that transfers no control: PC moves past it, the cost is accounted, and the
shadow stack and the call counters are kept. -/
structure Advances (s t : State) (len cost : Nat) : Prop extends Accounted s t cost where
  pc : t.pc = s.pc + BitVec.ofNat 16 len
  shadow : t.shadow = s.shadow
  rcalls : t.rcalls = s.rcalls

/-- Every general register but those named is kept. -/
def RegsKept (rs : List Reg) (s t : State) : Prop := ∀ q, q ∉ rs → t.reg q = s.reg q

/-- Every bit of P but those named is kept. -/
def FlagsKept (fs : List Flag) (s t : State) : Prop := ∀ f, f ∉ fs → t.flag f = s.flag f

/-- Every byte of memory but those at the named addresses reads as before. -/
def MemKept (as : List Word) (s t : State) : Prop := ∀ k, k ∉ as → memRead t k = memRead s k

/-- Z and N are those of the byte `v` (10_state.md R34), and the six other bits of P are kept. -/
def ZNOf (v : Byte) (s t : State) : Prop :=
  t.flag .z = decide (v = 0) ∧ t.flag .n = v.getLsbD 7 ∧ FlagsKept [.z, .n] s t

/-- A fatal error raised by the instruction at the PC of `s`, with opcode byte `op` (60_exceptions.md R350, R351): RUN records
it, an error event is emitted, no cycle is added, and neither P, A, X, Y nor the profiler changes. -/
structure Raises (s t : State) (kind : FatalKind) (op : Byte) : Prop where
  run : t.run = .fatal kind (some s.pc) (some op)
  event : t.port.getLast? = some (.error (some s.pc) kind)
  cyc : t.cyc = s.cyc
  rcyc : t.rcyc = s.rcyc
  rcalls : t.rcalls = s.rcalls
  shadow : t.shadow = s.shadow
  regs : RegsKept [] s t
  flags : FlagsKept [] s t
  frames : t.frames = s.frames
  cfg : t.cfg = s.cfg
  hostQuit : t.hostQuit = s.hostQuit

/-! ### The opcode map -/

/-- The bytes R97 lists as undefined with ZPI_OPS = true. -/
def undefinedBytes : List Byte :=
  [0x02, 0x03, 0x04, 0x07, 0x0B, 0x0C, 0x0F, 0x13, 0x14, 0x17, 0x1B, 0x1C] ++
  [0x1F, 0x22, 0x23, 0x27, 0x2B, 0x2F, 0x33, 0x34, 0x37, 0x3B, 0x3C, 0x3F] ++
  [0x42, 0x43, 0x44, 0x47, 0x4B, 0x4F, 0x53, 0x54, 0x57, 0x5B, 0x5C, 0x5F] ++
  [0x62, 0x63, 0x67, 0x6B, 0x6F, 0x73, 0x77, 0x7B, 0x7C, 0x7F, 0x82, 0x83] ++
  [0x87, 0x89, 0x8B, 0x8F, 0x93, 0x97, 0x9B, 0x9F, 0xA3, 0xA7, 0xAB, 0xAF] ++
  [0xB3, 0xB7, 0xBB, 0xBF, 0xC2, 0xC3, 0xC7, 0xCB, 0xCF, 0xD3, 0xD4, 0xD7] ++
  [0xDB, 0xDC, 0xDF, 0xE2, 0xE3, 0xE7, 0xEB, 0xEF, 0xF3, 0xF4, 0xF7, 0xFB] ++
  [0xFC, 0xFF]

/-! ### The forms of the instructions -/

/-- A form of an instruction that reads an operand: the instruction, its opcode byte, base cycles and operand. -/
structure ReadForm where
  instr : Instr
  op : Byte
  base : Nat
  src : Source
  deriving DecidableEq, Repr

/-- A form of an instruction that stores at an effective address. -/
structure StoreForm where
  instr : Instr
  op : Byte
  base : Nat
  addr : AddrForm
  deriving DecidableEq, Repr

/-- A form of an instruction that reads and writes back. -/
structure ModifyForm where
  instr : Instr
  op : Byte
  base : Nat
  dst : Target
  deriving DecidableEq, Repr

/-- The forms of LDA (R170). -/
def ldaForms (v : Byte) (a : Word) : List ReadForm :=
  [⟨.ldaImmediate v, 0xA9, 2, .imm v⟩, ⟨.ldaZeroPage v, 0xA5, 3, .mem (.zeroPage v)⟩,
   ⟨.ldaZeroPageX v, 0xB5, 4, .mem (.zeroPageX v)⟩, ⟨.ldaAbsolute a, 0xAD, 4, .mem (.absolute a)⟩,
   ⟨.ldaAbsoluteX a, 0xBD, 4, .mem (.absoluteX a)⟩, ⟨.ldaAbsoluteY a, 0xB9, 4, .mem (.absoluteY a)⟩,
   ⟨.ldaIndexedIndirectX v, 0xA1, 6, .mem (.indexedIndirectX v)⟩,
   ⟨.ldaIndirectIndexedY v, 0xB1, 5, .mem (.indirectIndexedY v)⟩,
   ⟨.ldaZeroPageIndirect v, 0xB2, 5, .mem (.zeroPageIndirect v)⟩]

/-- The forms of LDX (R171). -/
def ldxForms (v : Byte) (a : Word) : List ReadForm :=
  [⟨.ldxImmediate v, 0xA2, 2, .imm v⟩, ⟨.ldxZeroPage v, 0xA6, 3, .mem (.zeroPage v)⟩,
   ⟨.ldxZeroPageY v, 0xB6, 4, .mem (.zeroPageY v)⟩, ⟨.ldxAbsolute a, 0xAE, 4, .mem (.absolute a)⟩,
   ⟨.ldxAbsoluteY a, 0xBE, 4, .mem (.absoluteY a)⟩]

/-- The forms of LDY (R172). -/
def ldyForms (v : Byte) (a : Word) : List ReadForm :=
  [⟨.ldyImmediate v, 0xA0, 2, .imm v⟩, ⟨.ldyZeroPage v, 0xA4, 3, .mem (.zeroPage v)⟩,
   ⟨.ldyZeroPageX v, 0xB4, 4, .mem (.zeroPageX v)⟩, ⟨.ldyAbsolute a, 0xAC, 4, .mem (.absolute a)⟩,
   ⟨.ldyAbsoluteX a, 0xBC, 4, .mem (.absoluteX a)⟩]

/-- The forms of ADC (R203). -/
def adcForms (v : Byte) (a : Word) : List ReadForm :=
  [⟨.adcImmediate v, 0x69, 2, .imm v⟩, ⟨.adcZeroPage v, 0x65, 3, .mem (.zeroPage v)⟩,
   ⟨.adcZeroPageX v, 0x75, 4, .mem (.zeroPageX v)⟩, ⟨.adcAbsolute a, 0x6D, 4, .mem (.absolute a)⟩,
   ⟨.adcAbsoluteX a, 0x7D, 4, .mem (.absoluteX a)⟩, ⟨.adcAbsoluteY a, 0x79, 4, .mem (.absoluteY a)⟩,
   ⟨.adcIndexedIndirectX v, 0x61, 6, .mem (.indexedIndirectX v)⟩,
   ⟨.adcIndirectIndexedY v, 0x71, 5, .mem (.indirectIndexedY v)⟩,
   ⟨.adcZeroPageIndirect v, 0x72, 5, .mem (.zeroPageIndirect v)⟩]

/-- The forms of SBC (R204). -/
def sbcForms (v : Byte) (a : Word) : List ReadForm :=
  [⟨.sbcImmediate v, 0xE9, 2, .imm v⟩, ⟨.sbcZeroPage v, 0xE5, 3, .mem (.zeroPage v)⟩,
   ⟨.sbcZeroPageX v, 0xF5, 4, .mem (.zeroPageX v)⟩, ⟨.sbcAbsolute a, 0xED, 4, .mem (.absolute a)⟩,
   ⟨.sbcAbsoluteX a, 0xFD, 4, .mem (.absoluteX a)⟩, ⟨.sbcAbsoluteY a, 0xF9, 4, .mem (.absoluteY a)⟩,
   ⟨.sbcIndexedIndirectX v, 0xE1, 6, .mem (.indexedIndirectX v)⟩,
   ⟨.sbcIndirectIndexedY v, 0xF1, 5, .mem (.indirectIndexedY v)⟩,
   ⟨.sbcZeroPageIndirect v, 0xF2, 5, .mem (.zeroPageIndirect v)⟩]

/-- The forms of AND (R205). -/
def andForms (v : Byte) (a : Word) : List ReadForm :=
  [⟨.andImmediate v, 0x29, 2, .imm v⟩, ⟨.andZeroPage v, 0x25, 3, .mem (.zeroPage v)⟩,
   ⟨.andZeroPageX v, 0x35, 4, .mem (.zeroPageX v)⟩, ⟨.andAbsolute a, 0x2D, 4, .mem (.absolute a)⟩,
   ⟨.andAbsoluteX a, 0x3D, 4, .mem (.absoluteX a)⟩, ⟨.andAbsoluteY a, 0x39, 4, .mem (.absoluteY a)⟩,
   ⟨.andIndexedIndirectX v, 0x21, 6, .mem (.indexedIndirectX v)⟩,
   ⟨.andIndirectIndexedY v, 0x31, 5, .mem (.indirectIndexedY v)⟩,
   ⟨.andZeroPageIndirect v, 0x32, 5, .mem (.zeroPageIndirect v)⟩]

/-- The forms of ORA (R206). -/
def oraForms (v : Byte) (a : Word) : List ReadForm :=
  [⟨.oraImmediate v, 0x09, 2, .imm v⟩, ⟨.oraZeroPage v, 0x05, 3, .mem (.zeroPage v)⟩,
   ⟨.oraZeroPageX v, 0x15, 4, .mem (.zeroPageX v)⟩, ⟨.oraAbsolute a, 0x0D, 4, .mem (.absolute a)⟩,
   ⟨.oraAbsoluteX a, 0x1D, 4, .mem (.absoluteX a)⟩, ⟨.oraAbsoluteY a, 0x19, 4, .mem (.absoluteY a)⟩,
   ⟨.oraIndexedIndirectX v, 0x01, 6, .mem (.indexedIndirectX v)⟩,
   ⟨.oraIndirectIndexedY v, 0x11, 5, .mem (.indirectIndexedY v)⟩,
   ⟨.oraZeroPageIndirect v, 0x12, 5, .mem (.zeroPageIndirect v)⟩]

/-- The forms of EOR (R207). -/
def eorForms (v : Byte) (a : Word) : List ReadForm :=
  [⟨.eorImmediate v, 0x49, 2, .imm v⟩, ⟨.eorZeroPage v, 0x45, 3, .mem (.zeroPage v)⟩,
   ⟨.eorZeroPageX v, 0x55, 4, .mem (.zeroPageX v)⟩, ⟨.eorAbsolute a, 0x4D, 4, .mem (.absolute a)⟩,
   ⟨.eorAbsoluteX a, 0x5D, 4, .mem (.absoluteX a)⟩, ⟨.eorAbsoluteY a, 0x59, 4, .mem (.absoluteY a)⟩,
   ⟨.eorIndexedIndirectX v, 0x41, 6, .mem (.indexedIndirectX v)⟩,
   ⟨.eorIndirectIndexedY v, 0x51, 5, .mem (.indirectIndexedY v)⟩,
   ⟨.eorZeroPageIndirect v, 0x52, 5, .mem (.zeroPageIndirect v)⟩]

/-- The forms of CMP (R209). -/
def cmpForms (v : Byte) (a : Word) : List ReadForm :=
  [⟨.cmpImmediate v, 0xC9, 2, .imm v⟩, ⟨.cmpZeroPage v, 0xC5, 3, .mem (.zeroPage v)⟩,
   ⟨.cmpZeroPageX v, 0xD5, 4, .mem (.zeroPageX v)⟩, ⟨.cmpAbsolute a, 0xCD, 4, .mem (.absolute a)⟩,
   ⟨.cmpAbsoluteX a, 0xDD, 4, .mem (.absoluteX a)⟩, ⟨.cmpAbsoluteY a, 0xD9, 4, .mem (.absoluteY a)⟩,
   ⟨.cmpIndexedIndirectX v, 0xC1, 6, .mem (.indexedIndirectX v)⟩,
   ⟨.cmpIndirectIndexedY v, 0xD1, 5, .mem (.indirectIndexedY v)⟩,
   ⟨.cmpZeroPageIndirect v, 0xD2, 5, .mem (.zeroPageIndirect v)⟩]

/-- The forms of CPX (R210). -/
def cpxForms (v : Byte) (a : Word) : List ReadForm :=
  [⟨.cpxImmediate v, 0xE0, 2, .imm v⟩, ⟨.cpxZeroPage v, 0xE4, 3, .mem (.zeroPage v)⟩,
   ⟨.cpxAbsolute a, 0xEC, 4, .mem (.absolute a)⟩]

/-- The forms of CPY (R211). -/
def cpyForms (v : Byte) (a : Word) : List ReadForm :=
  [⟨.cpyImmediate v, 0xC0, 2, .imm v⟩, ⟨.cpyZeroPage v, 0xC4, 3, .mem (.zeroPage v)⟩,
   ⟨.cpyAbsolute a, 0xCC, 4, .mem (.absolute a)⟩]

/-- The forms of BIT (R212). -/
def bitForms (v : Byte) (a : Word) : List ReadForm :=
  [⟨.bitZeroPage v, 0x24, 3, .mem (.zeroPage v)⟩, ⟨.bitAbsolute a, 0x2C, 4, .mem (.absolute a)⟩]

/-- The forms of STA (R173). -/
def staForms (v : Byte) (a : Word) : List StoreForm :=
  [⟨.staZeroPage v, 0x85, 3, .zeroPage v⟩, ⟨.staZeroPageX v, 0x95, 4, .zeroPageX v⟩,
   ⟨.staAbsolute a, 0x8D, 4, .absolute a⟩, ⟨.staAbsoluteX a, 0x9D, 5, .absoluteX a⟩,
   ⟨.staAbsoluteY a, 0x99, 5, .absoluteY a⟩, ⟨.staIndexedIndirectX v, 0x81, 6, .indexedIndirectX v⟩,
   ⟨.staIndirectIndexedY v, 0x91, 6, .indirectIndexedY v⟩, ⟨.staZeroPageIndirect v, 0x92, 5, .zeroPageIndirect v⟩]

/-- The forms of STX (R174). -/
def stxForms (v : Byte) (a : Word) : List StoreForm :=
  [⟨.stxZeroPage v, 0x86, 3, .zeroPage v⟩, ⟨.stxZeroPageY v, 0x96, 4, .zeroPageY v⟩,
   ⟨.stxAbsolute a, 0x8E, 4, .absolute a⟩]

/-- The forms of STY (R175). -/
def styForms (v : Byte) (a : Word) : List StoreForm :=
  [⟨.styZeroPage v, 0x84, 3, .zeroPage v⟩, ⟨.styZeroPageX v, 0x94, 4, .zeroPageX v⟩,
   ⟨.styAbsolute a, 0x8C, 4, .absolute a⟩]

/-- The forms of STZ (R176). -/
def stzForms (v : Byte) (a : Word) : List StoreForm :=
  [⟨.stzZeroPage v, 0x64, 3, .zeroPage v⟩, ⟨.stzZeroPageX v, 0x74, 4, .zeroPageX v⟩,
   ⟨.stzAbsolute a, 0x9C, 4, .absolute a⟩, ⟨.stzAbsoluteX a, 0x9E, 5, .absoluteX a⟩]

/-- The forms of ASL (R231). -/
def aslForms (v : Byte) (a : Word) : List ModifyForm :=
  [⟨.aslAccumulator, 0x0A, 2, .acc⟩, ⟨.aslZeroPage v, 0x06, 5, .mem (.zeroPage v)⟩,
   ⟨.aslZeroPageX v, 0x16, 6, .mem (.zeroPageX v)⟩, ⟨.aslAbsolute a, 0x0E, 6, .mem (.absolute a)⟩,
   ⟨.aslAbsoluteX a, 0x1E, 7, .mem (.absoluteX a)⟩]

/-- The forms of LSR (R232). -/
def lsrForms (v : Byte) (a : Word) : List ModifyForm :=
  [⟨.lsrAccumulator, 0x4A, 2, .acc⟩, ⟨.lsrZeroPage v, 0x46, 5, .mem (.zeroPage v)⟩,
   ⟨.lsrZeroPageX v, 0x56, 6, .mem (.zeroPageX v)⟩, ⟨.lsrAbsolute a, 0x4E, 6, .mem (.absolute a)⟩,
   ⟨.lsrAbsoluteX a, 0x5E, 7, .mem (.absoluteX a)⟩]

/-- The forms of ROL (R233). -/
def rolForms (v : Byte) (a : Word) : List ModifyForm :=
  [⟨.rolAccumulator, 0x2A, 2, .acc⟩, ⟨.rolZeroPage v, 0x26, 5, .mem (.zeroPage v)⟩,
   ⟨.rolZeroPageX v, 0x36, 6, .mem (.zeroPageX v)⟩, ⟨.rolAbsolute a, 0x2E, 6, .mem (.absolute a)⟩,
   ⟨.rolAbsoluteX a, 0x3E, 7, .mem (.absoluteX a)⟩]

/-- The forms of ROR (R234). -/
def rorForms (v : Byte) (a : Word) : List ModifyForm :=
  [⟨.rorAccumulator, 0x6A, 2, .acc⟩, ⟨.rorZeroPage v, 0x66, 5, .mem (.zeroPage v)⟩,
   ⟨.rorZeroPageX v, 0x76, 6, .mem (.zeroPageX v)⟩, ⟨.rorAbsolute a, 0x6E, 6, .mem (.absolute a)⟩,
   ⟨.rorAbsoluteX a, 0x7E, 7, .mem (.absoluteX a)⟩]

/-- The forms of INC (R235). -/
def incForms (v : Byte) (a : Word) : List ModifyForm :=
  [⟨.incZeroPage v, 0xE6, 5, .mem (.zeroPage v)⟩, ⟨.incZeroPageX v, 0xF6, 6, .mem (.zeroPageX v)⟩,
   ⟨.incAbsolute a, 0xEE, 6, .mem (.absolute a)⟩, ⟨.incAbsoluteX a, 0xFE, 7, .mem (.absoluteX a)⟩]

/-- The forms of DEC (R236). -/
def decForms (v : Byte) (a : Word) : List ModifyForm :=
  [⟨.decZeroPage v, 0xC6, 5, .mem (.zeroPage v)⟩, ⟨.decZeroPageX v, 0xD6, 6, .mem (.zeroPageX v)⟩,
   ⟨.decAbsolute a, 0xCE, 6, .mem (.absolute a)⟩, ⟨.decAbsoluteX a, 0xDE, 7, .mem (.absoluteX a)⟩]

/-- The conditional branches with offset `r` (R261 to R268): opcode byte, the flag tested, and the value that takes it. -/
def branchForms (r : Byte) : List (Instr × Byte × Flag × Bool) :=
  [(.bcc r, 0x90, .c, false), (.bcs r, 0xB0, .c, true), (.beq r, 0xF0, .z, true), (.bmi r, 0x30, .n, true),
   (.bne r, 0xD0, .z, false), (.bpl r, 0x10, .n, false), (.bvc r, 0x50, .v, false), (.bvs r, 0x70, .v, true)]

/-- The flag instructions (R298 to R304): opcode byte, the flag written, and its value. -/
def flagForms : List (Instr × Byte × Flag × Bool) :=
  [(.clc, 0x18, .c, false), (.sec, 0x38, .c, true), (.cli, 0x58, .i, false), (.sei, 0x78, .i, true),
   (.cld, 0xD8, .d, false), (.sed, 0xF8, .d, true), (.clv, 0xB8, .v, false)]

/-- The instructions whose cost is their base cycles and the adjustment of their mode, with that cost: loads, compares, BIT,
transfers, register increments, jumps, RTS, pushes and pulls of a register. -/
def costForms (v : Byte) (a : Word) (s : State) : List (Instr × Nat) :=
  (ldaForms v a ++ ldxForms v a ++ ldyForms v a ++ cmpForms v a ++ cpxForms v a ++ cpyForms v a ++ bitForms v a).map
      (fun f => (f.instr, f.base + f.src.adj s)) ++
    [(.tax, 2), (.tay, 2), (.txa, 2), (.tya, 2), (.tsx, 2), (.txs, 2), (.inx, 2), (.iny, 2), (.dex, 2), (.dey, 2),
     (.ina, 2), (.dea, 2), (.jmpAbsolute a, 3), (.jmpIndirect a, 5), (.rts, 6), (.pha, 3), (.phx, 3), (.phy, 3),
     (.pla, 4), (.plx, 4), (.ply, 4)]

/-- The mnemonic of an instruction, from its row of the opcode map. -/
def mnemonicOf (i : Instr) : String :=
  match (encode i).head?.bind findRow with
  | some r => r.mnemonic
  | none => ""

/-- The addresses an instruction stores to, in the order of its writes (20_memory.md R67): the effective address of a store or a
read-modify-write form, the stack byte of a push, JSR's two (high byte first); none of any other instruction. -/
def storedAddrs (i : Instr) (s : State) : List Word :=
  match i with
  | .staZeroPage z | .stxZeroPage z | .styZeroPage z | .stzZeroPage z | .aslZeroPage z | .lsrZeroPage z | .rolZeroPage z
  | .rorZeroPage z | .incZeroPage z | .decZeroPage z => [(AddrForm.zeroPage z).ea s]
  | .staZeroPageX z | .styZeroPageX z | .stzZeroPageX z | .aslZeroPageX z | .lsrZeroPageX z | .rolZeroPageX z
  | .rorZeroPageX z | .incZeroPageX z | .decZeroPageX z => [(AddrForm.zeroPageX z).ea s]
  | .stxZeroPageY z => [(AddrForm.zeroPageY z).ea s]
  | .staAbsolute a | .stxAbsolute a | .styAbsolute a | .stzAbsolute a | .aslAbsolute a | .lsrAbsolute a | .rolAbsolute a
  | .rorAbsolute a | .incAbsolute a | .decAbsolute a => [(AddrForm.absolute a).ea s]
  | .staAbsoluteX a | .stzAbsoluteX a | .aslAbsoluteX a | .lsrAbsoluteX a | .rolAbsoluteX a | .rorAbsoluteX a
  | .incAbsoluteX a | .decAbsoluteX a => [(AddrForm.absoluteX a).ea s]
  | .staAbsoluteY a => [(AddrForm.absoluteY a).ea s]
  | .staIndexedIndirectX z => [(AddrForm.indexedIndirectX z).ea s]
  | .staIndirectIndexedY z => [(AddrForm.indirectIndexedY z).ea s]
  | .staZeroPageIndirect z => [(AddrForm.zeroPageIndirect z).ea s]
  | .pha | .php | .phx | .phy => [stackAddr s.sp]
  | .jsr _ => [stackAddr s.sp, stackAddr (s.sp - 1)]
  | _ => []

end Sys2Proof.Machine
end

