-- ==== Sys2Proof/Certificates/Slice0/Obligations.lean ====
section
/-! DEFINITION. The statements about the machine, in the order of the spec's files: encoding, memory and stack, addresses,
arithmetic, the instructions family by family, the profiler and its ports, and the step and the whole machine. Every
completion statement holds for every form of its instructions and every state that meets its hypotheses. -/

open Sys2Proof Sys2Proof.Machine

/-! ### Encoding and decoding (30_encoding.md) -/

/-- R90, R94, R101: the decoder reads back every well-formed instruction from its bytes, with every operand at every value,
and leaves the bytes after it. -/
def Obligations.DecodeInvertsEncode : Prop :=
  ∀ (zpiOps : Bool) (i : Instr) (rest : List Byte), i.wellFormed zpiOps = true →
    decode zpiOps (encode i ++ rest) = .instr i rest

/-- R94, R101: what the decoder accepts is exactly the encoding of a well-formed instruction, so no two encodings overlap. -/
def Obligations.DecodeAcceptsOnlyEncodings : Prop :=
  ∀ (zpiOps : Bool) (bytes rest : List Byte) (i : Instr), decode zpiOps bytes = .instr i rest →
    bytes = encode i ++ rest ∧ i.wellFormed zpiOps = true

/-- R95: words written out from the encodings of the opcode table, one or more for each family. -/
def Obligations.WrittenWordsDecode : Prop :=
  decode true [0b10101001, 0b00000101] = .instr (.ldaImmediate 0x05) [] ∧
    decode true [0b10011101, 0b11111111, 0b00001111] = .instr (.staAbsoluteX 0x0FFF) [] ∧
    decode true [0b10101010] = .instr .tax [] ∧
    decode true [0b01110001, 0b00100000] = .instr (.adcIndirectIndexedY 0x20) [] ∧
    decode true [0b00101110, 0b00000000, 0b00110000] = .instr (.rolAbsolute 0x3000) [] ∧
    decode true [0b11010000, 0b11111110] = .instr (.bne 0xFE) [] ∧
    decode true [0b01101100, 0b11111111, 0b00000010] = .instr (.jmpIndirect 0x02FF) [] ∧
    decode true [0b01001000] = .instr .pha [] ∧ decode true [0b11111000] = .instr .sed []

/-- R97, R98: the bytes without an entry are these 86, and with ZPI_OPS = false the eight zero_page_indirect bytes too,
whatever bytes follow. -/
def Obligations.UndefinedBytesHaveNoEntry : Prop :=
  ∀ (zpiOps : Bool) (op : Byte) (rest : List Byte), decode zpiOps (op :: rest) = .undefinedOpcode op ↔
    op ∈ undefinedBytes ∨ zpiOps = false ∧ op ∈ ([0x12, 0x32, 0x52, 0x72, 0x92, 0xB2, 0xD2, 0xF2] : List Byte)

/-! ### Memory and the stack (20_memory.md, 10_state.md) -/

/-- R63, R64: a 16-bit read is little endian and wraps at 0xFFFF; a zero-page pointer at 0xFF takes its high byte from 0x0000
or from 0x0100 as ZP_PTR_HI says. -/
def Obligations.WordReadsAreLittleEndian : Prop :=
  ∀ (s : State) (k : Word) (z : Byte),
    (memRead16 s k).toNat = 256 * (memRead s (BitVec.ofNat 16 (k.toNat + 1))).toNat + (memRead s k).toNat ∧
    (s.cfg.zpPtrHi = .zpWrap → (memReadZp16 s z).toNat =
      256 * (memRead s (BitVec.ofNat 16 ((z.toNat + 1) % 256))).toNat + (memRead s (BitVec.ofNat 16 z.toNat)).toNat) ∧
    (s.cfg.zpPtrHi = .linear → (memReadZp16 s z).toNat =
      256 * (memRead s (BitVec.ofNat 16 (z.toNat + 1))).toNat + (memRead s (BitVec.ofNat 16 z.toNat)).toNat)

/-- R62, R70 (decision D25), and R334 for the screen event: a write stores the byte and keeps every other byte of memory,
emits one write-hook event with the old and the new byte, then a screen event if the byte is the status byte and its
value changes, and changes nothing else. The place of the screen event (log 9) and its cycles (log 10) are the model's
choice. -/
def Obligations.MemWriteEmitsItsHook : Prop :=
  ∀ (pc0 k : Word) (v : Byte) (s : State),
    (memWrite pc0 k v s).port = s.port ++ [.write k (memRead s k) v pc0 s.cyc] ++
      (if s.cfg.screenStatusAddr = some k ∧ memRead s k ≠ v then [.screen s.cyc] else []) ∧
    memRead (memWrite pc0 k v s) k = v ∧ MemKept [k] s (memWrite pc0 k v s) ∧
    { memWrite pc0 k v s with mem := s.mem, port := s.port } = s

/-- R27, R354, and R70 with decision D25 (log 30) for the port: Push writes at 0x0100 + SP and decrements SP, or raises
StackOverflow at SP = 0x00 with nothing changed. The write hook's event, with the screen event of R334 if the write
causes one (its place is log 9, its cycles log 10), is the only other change. -/
def Obligations.PushWritesThenDecrements : Prop :=
  ∀ (pc0 : Word) (v : Byte) (s : State),
    (s.sp = 0x00 → push pc0 v s = .fatal .stackOverflow s) ∧
    (s.sp ≠ 0x00 → ∃ t, push pc0 v s = .ok () t ∧ t.sp.toNat = s.sp.toNat - 1 ∧
      let k := BitVec.ofNat 16 (0x0100 + s.sp.toNat)
      memRead t k = v ∧ MemKept [k] s t ∧
      t.port = s.port ++ [.write k (memRead s k) v pc0 s.cyc] ++
        (if s.cfg.screenStatusAddr = some k ∧ memRead s k ≠ v then [.screen s.cyc] else []) ∧
      { t with sp := s.sp, mem := s.mem, port := s.port } = s)

/-- R28, R355: Pop increments SP and reads at 0x0100 + SP, or raises StackUnderrun at SP = 0xFF with nothing changed. -/
def Obligations.PopIncrementsThenReads : Prop :=
  ∀ s : State,
    (s.sp = 0xFF → pop s = .fatal .stackUnderrun s) ∧
    (s.sp ≠ 0xFF → ∃ t, pop s = .ok (memRead s (BitVec.ofNat 16 (0x0100 + (s.sp.toNat + 1)))) t ∧
      t.sp.toNat = s.sp.toNat + 1 ∧ { t with sp := s.sp } = s)

/-- R29, with the source's "stack bounds": from SP = 0xFF, 255 pushes of A succeed and fill 0x0101 to 0x01FF, leaving 0x0100
as it was, and the 256th raises StackOverflow. -/
def Obligations.StackHolds255Bytes : Prop :=
  ∀ s : State, s.run = .running → s.sp = 0xFF →
    ∃ t, execAll (List.replicate 255 .pha) s = some t ∧ t.sp = 0x00 ∧
      (∀ k : Nat, 1 ≤ k → k ≤ 255 → memRead t (BitVec.ofNat 16 (0x0100 + k)) = s.a) ∧
      memRead t 0x0100 = memRead s 0x0100 ∧
      ∃ u, exec .pha t = .next u ∧ u.run = .fatal .stackOverflow (some t.pc) (some 0x48) ∧ u.mem = t.mem

/-! ### Addresses (41_addressing.md) -/

/-- R145, R146: zero-page indexing stays in page zero, modulo 256 or modulo 255 as ZP_INDEX_WRAP says (the default, modulo
256, is decision D2), and costs nothing extra. -/
def Obligations.ZeroPageIndexWraps : Prop :=
  ∀ (s : State) (z : Byte) (m : AddrForm) (i : Byte),
    (m = .zeroPageX z ∧ i = s.x) ∨ (m = .zeroPageY z ∧ i = s.y) → m.adj s = 0 ∧
      (s.cfg.zpIndexWrap = .mod256 → (m.ea s).toNat = (z.toNat + i.toNat) % 256) ∧
      (s.cfg.zpIndexWrap = .mod255 → (m.ea s).toNat = (z.toNat + i.toNat) % 255)

/-- R148, R149, R153, R157: the absolute indexed and indirect indexed addresses wrap modulo 65536 and add one cycle exactly
when the high nibble of the address changes. -/
def Obligations.IndexedAddressesAndPenalty : Prop :=
  ∀ (s : State) (m : AddrForm) (base : Word) (i : Byte),
    (m = .absoluteX base ∧ i = s.x) ∨ (m = .absoluteY base ∧ i = s.y) ∨
      (∃ z, m = .indirectIndexedY z ∧ base = memReadZp16 s z ∧ i = s.y) →
    (m.ea s).toNat = (base.toNat + i.toNat) % 65536 ∧
      m.adj s = if base.toNat / 4096 = (m.ea s).toNat / 4096 then 0 else 1

/-- R144, R147, R150, R151, R152: the zero-page, absolute, indirect, zero-page indirect and indexed indirect addresses, none
of which adds a cycle; the pointer of (zp,X) always wraps modulo 256 (decision D2), and a JMP pointer at 0x..FF takes its
high byte from the next page or from the start of its own as JMP_IND_WRAP says (decision D4). R142, R143, R155: an
immediate operand is its own byte, an accumulator operand is A, and every other operand is the byte at its address. -/
def Obligations.PointerAddresses : Prop :=
  ∀ (s : State) (a : Word) (z : Byte),
    ((AddrForm.zeroPage z).ea s = BitVec.ofNat 16 z.toNat ∧ (AddrForm.zeroPage z).adj s = 0) ∧
    ((AddrForm.absolute a).ea s = a ∧ (AddrForm.absolute a).adj s = 0) ∧
    ((AddrForm.zeroPageIndirect z).ea s = memReadZp16 s z ∧ (AddrForm.zeroPageIndirect z).adj s = 0) ∧
    ((AddrForm.indexedIndirectX z).ea s = memReadZp16 s (BitVec.ofNat 8 ((z.toNat + s.x.toNat) % 256)) ∧
      (AddrForm.indexedIndirectX z).adj s = 0) ∧
    (AddrForm.indirect a).adj s = 0 ∧
    (s.cfg.jmpIndWrap = .linear → (AddrForm.indirect a).ea s = memRead16 s a) ∧
    (s.cfg.jmpIndWrap = .pageBug → (AddrForm.indirect a).ea s =
      wordOf (memRead s (BitVec.ofNat 16 (a.toNat / 256 * 256 + (a.toNat + 1) % 256))) (memRead s a)) ∧
    ((Source.imm z).read s = z ∧ (Source.imm z).adj s = 0) ∧ (Target.acc.read s = s.a ∧ Target.acc.adj s = 0) ∧
    ∀ m : AddrForm, (Source.mem m).read s = memRead s (m.ea s) ∧ (Source.mem m).adj s = m.adj s ∧
      (Target.mem m).read s = memRead s (m.ea s) ∧ (Target.mem m).adj s = m.adj s

/-- R156: Cross compares bits 15 to 12, so 0x0FFF to 0x1000 costs a cycle and 0x10FF to 0x1100 does not. -/
def Obligations.CrossComparesHighNibbles : Prop :=
  (∀ base ea : Word, cross base ea = if base.toNat / 4096 = ea.toNat / 4096 then 0 else 1) ∧
    cross 0x0FFF 0x1000 = 1 ∧ cross 0x10FF 0x1100 = 0

/-! ### Arithmetic (43_alu.md) -/

/-- R200: AddCore's sum, its low byte and its carry; Vb by the XOR formula, which holds exactly when the two operands have
the same sign bit and the result has the other. -/
def Obligations.AddCoreIsTheNineBitSum : Prop :=
  ∀ (a n : Byte) (c : Bool),
    (addCore a n c).sum = a.toNat + n.toNat + c.toNat ∧
    (addCore a n c).result.toNat = (a.toNat + n.toNat + c.toNat) % 256 ∧
    (addCore a n c).carry = decide (a.toNat + n.toNat + c.toNat > 0xFF) ∧
    (addCore a n c).overflow =
      decide (((a.toNat + n.toNat + c.toNat) ^^^ a.toNat) &&& ((a.toNat + n.toNat + c.toNat) ^^^ n.toNat) &&& 0x80 ≠ 0) ∧
    ((addCore a n c).overflow = true ↔
      a.getLsbD 7 = n.getLsbD 7 ∧ (addCore a n c).result.getLsbD 7 ≠ a.getLsbD 7)

/-- V after a binary ADC or SBC is signed overflow: the exact signed sum lies outside -128..127 (a consequence of R200). -/
def Obligations.OverflowIsSignedOverflow : Prop :=
  ∀ (a n : Byte) (c : Bool), (addCore a n c).overflow = true ↔
    a.toInt + n.toInt + c.toNat < -128 ∨ a.toInt + n.toInt + c.toNat > 127

/-- The remark under R202 that for valid BCD operands the reading gives the BCD difference and not-borrow. The spec marks it
as its own derivation, and it does not follow from the rule's pseudocode, which the model keeps (log 2). -/
def Obligations.DecimalSubtractGivesBcdDifference : Prop :=
  ∀ (a m : Byte) (c : Bool), a.toNat % 16 ≤ 9 → a.toNat / 16 ≤ 9 → m.toNat % 16 ≤ 9 → m.toNat / 16 ≤ 9 →
    let x : Int := 10 * (a.toNat / 16 : Nat) + (a.toNat % 16 : Nat)
    let y : Int := 10 * (m.toNat / 16 : Nat) + (m.toNat % 16 : Nat)
    let d : Int := x - y - (if c then 0 else 1)
    (bcdSbcReading a m c).2 = decide (0 ≤ d) ∧
      ((bcdSbcReading a m c).1.toNat : Int) = 16 * (d % 100 / 10) + d % 100 % 10

/-- R201, the default reading of bcd_adc over the natural numbers (decision D6, log 2); and R203, ADC in its nine forms. In
binary mode A and C are the nine-bit sum's, in decimal mode those of the parameter bcd_adc; V is the binary sum's in both
modes (decision D8, log 16), Z and N follow the new A, the rest is kept. The opcode bytes and base cycles are those of
the opcode table (log 13), the penalty decision D11 (log 15). -/
def Obligations.AdcAddsWithCarry : Prop :=
  (∀ (a m : Byte) (c : Bool),
    let s0 := a.toNat + m.toNat + c.toNat
    let s1 := if s0 &&& 0x0F > 0x09 then s0 + 0x06 else s0
    let s2 := if s1 &&& 0xF0 > 0x90 then s1 + 0x60 else s1
    (bcdAdc .reading a m c).1.toNat = s2 % 256 ∧ (bcdAdc .reading a m c).2 = decide (s2 > 0xFF)) ∧
  ∀ (v : Byte) (a : Word) (s : State), ∀ f ∈ adcForms v a,
    (encode f.instr).head? = some f.op ∧ f.src.length = (encode f.instr).length ∧ ∃ t, exec f.instr s = .next t ∧
    let m := f.src.read s
    let q := if s.flag .d then bcdAdc s.cfg.bcdAdc s.a m (s.flag .c)
      else (BitVec.ofNat 8 (s.a.toNat + m.toNat + (s.flag .c).toNat), decide (s.a.toNat + m.toNat + (s.flag .c).toNat > 255))
    Advances s t f.src.length (f.base + f.src.adj s) ∧
    t.a = q.1 ∧ t.flag .c = q.2 ∧ t.flag .v = (addCore s.a m (s.flag .c)).overflow ∧
    t.flag .z = decide (q.1 = 0) ∧ t.flag .n = q.1.getLsbD 7 ∧
    FlagsKept [.c, .v, .z, .n] s t ∧ RegsKept [.a] s t ∧ t.sp = s.sp ∧ MemKept [] s t

/-- R202, the default reading of bcd_sbc over the integers (decision D7, log 2); and R204, SBC in its nine forms, as ADC with
the addend `~m` (decision D9, log 16) in the binary sum and bcd_sbc in decimal mode. The opcode bytes and base cycles are
those of the opcode table (log 13), the penalty decision D11 (log 15). -/
def Obligations.SbcSubtractsWithBorrow : Prop :=
  (∀ (a m : Byte) (c : Bool),
    let s0 : Int := a.toNat + (255 - m.toNat) + c.toNat - 0x66
    let s1 : Int := if (s0 % 256).toNat &&& 0x0F > 0x09 then s0 + 0x06 else s0
    let s2 : Int := if (s1 % 256).toNat &&& 0xF0 > 0x90 then s1 + 0x60 else s1
    ((bcdSbc .reading a m c).1.toNat : Int) = s2 % 256 ∧ (bcdSbc .reading a m c).2 = decide (s2 > 0xFF)) ∧
  ∀ (v : Byte) (a : Word) (s : State), ∀ f ∈ sbcForms v a,
    (encode f.instr).head? = some f.op ∧ f.src.length = (encode f.instr).length ∧ ∃ t, exec f.instr s = .next t ∧
    let m := f.src.read s
    let sum := s.a.toNat + (255 - m.toNat) + (s.flag .c).toNat
    let q := if s.flag .d then bcdSbc s.cfg.bcdSbc s.a m (s.flag .c) else (BitVec.ofNat 8 sum, decide (sum > 255))
    Advances s t f.src.length (f.base + f.src.adj s) ∧
    t.a = q.1 ∧ t.flag .c = q.2 ∧ t.flag .v = (addCore s.a (~~~m) (s.flag .c)).overflow ∧
    t.flag .z = decide (q.1 = 0) ∧ t.flag .n = q.1.getLsbD 7 ∧
    FlagsKept [.c, .v, .z, .n] s t ∧ RegsKept [.a] s t ∧ t.sp = s.sp ∧ MemKept [] s t

/-- R205, R206, R207: AND, ORA and EOR in their nine forms each. The opcode bytes and base cycles are those of the opcode
table (log 13), the penalty decision D11 (log 15). -/
def Obligations.LogicWritesAWithZN : Prop :=
  ∀ (v : Byte) (a : Word) (s : State) (f : ReadForm) (r : Byte),
    (f ∈ andForms v a ∧ r = s.a &&& f.src.read s) ∨ (f ∈ oraForms v a ∧ r = s.a ||| f.src.read s) ∨
      (f ∈ eorForms v a ∧ r = s.a ^^^ f.src.read s) →
    (encode f.instr).head? = some f.op ∧ f.src.length = (encode f.instr).length ∧
    ∃ t, exec f.instr s = .next t ∧ Advances s t f.src.length (f.base + f.src.adj s) ∧
      t.a = r ∧ ZNOf r s t ∧ RegsKept [.a] s t ∧ t.sp = s.sp ∧ MemKept [] s t

/-- R208 to R211: CMP, CPX and CPY in all their forms set C on unsigned >=, Z on equality and N from the difference, write
no register, keep V, and do not depend on P.D; the opcode bytes are those of the rules. -/
def Obligations.CompareSetsCZN : Prop :=
  ∀ (v : Byte) (a : Word) (s : State) (f : ReadForm) (r : Byte),
    (f ∈ cmpForms v a ∧ r = s.a) ∨ (f ∈ cpxForms v a ∧ r = s.x) ∨ (f ∈ cpyForms v a ∧ r = s.y) →
    (encode f.instr).head? = some f.op ∧ f.src.length = (encode f.instr).length ∧ ∃ t cost, exec f.instr s = .next t ∧
      Advances s t f.src.length cost ∧
      t.flag .c = decide (r.toNat ≥ (f.src.read s).toNat) ∧ t.flag .z = decide (r = f.src.read s) ∧
      t.flag .n = (BitVec.ofNat 8 (r.toNat + 256 - (f.src.read s).toNat)).getLsbD 7 ∧
      FlagsKept [.c, .z, .n] s t ∧ RegsKept [] s t ∧ t.sp = s.sp ∧ MemKept [] s t

/-- R212: BIT in its two forms takes Z from A & m and N and V from bits 7 and 6 of m; C and A are kept. -/
def Obligations.BitTestsOperandBits : Prop :=
  ∀ (v : Byte) (a : Word) (s : State), ∀ f ∈ bitForms v a,
    (encode f.instr).head? = some f.op ∧ f.src.length = (encode f.instr).length ∧ ∃ t cost, exec f.instr s = .next t ∧
      Advances s t f.src.length cost ∧
      t.flag .z = decide (s.a &&& f.src.read s = 0) ∧ t.flag .n = (f.src.read s).getLsbD 7 ∧
      t.flag .v = (f.src.read s).getLsbD 6 ∧
      FlagsKept [.z, .n, .v] s t ∧ RegsKept [] s t ∧ t.sp = s.sp ∧ MemKept [] s t

/-! ### Loads, stores and transfers (42_load_store_transfer.md) -/

/-- R170, R171, R172: LDA, LDX and LDY in all their forms; the opcode bytes are those of the rules. -/
def Obligations.LoadsWriteRegisterWithZN : Prop :=
  ∀ (v : Byte) (a : Word) (s : State) (f : ReadForm) (r : Reg),
    (f ∈ ldaForms v a ∧ r = .a) ∨ (f ∈ ldxForms v a ∧ r = .x) ∨ (f ∈ ldyForms v a ∧ r = .y) →
    (encode f.instr).head? = some f.op ∧ f.src.length = (encode f.instr).length ∧ ∃ t cost, exec f.instr s = .next t ∧
      Advances s t f.src.length cost ∧
      t.reg r = f.src.read s ∧ ZNOf (f.src.read s) s t ∧ RegsKept [r] s t ∧ t.sp = s.sp ∧ MemKept [] s t

/-- R173 to R176: STA, STX, STY and STZ in all their forms write one byte at the effective address and no flag; the penalty
applies to their indexed forms too (decision D11, log 15), and the first event is the write hook's (decision D25). The
opcode bytes and base cycles are those of the opcode table (log 13). -/
def Obligations.StoresWriteOneByte : Prop :=
  ∀ (v : Byte) (a : Word) (s : State) (f : StoreForm) (b : Byte),
    (f ∈ staForms v a ∧ b = s.a) ∨ (f ∈ stxForms v a ∧ b = s.x) ∨ (f ∈ styForms v a ∧ b = s.y) ∨
      (f ∈ stzForms v a ∧ b = 0x00) →
    (encode f.instr).head? = some f.op ∧ f.addr.length = (encode f.instr).length ∧
    ∃ t, exec f.instr s = .next t ∧ Advances s t f.addr.length (f.base + f.addr.adj s) ∧
      memRead t (f.addr.ea s) = b ∧ MemKept [f.addr.ea s] s t ∧ RegsKept [] s t ∧ t.p = s.p ∧ t.sp = s.sp ∧
      (s.port ++ [.write (f.addr.ea s) (memRead s (f.addr.ea s)) b s.pc s.cyc]) <+: t.port

/-- R177 to R181: TAX, TAY, TXA, TYA and TSX, with their opcode bytes. -/
def Obligations.TransfersWriteRegisterWithZN : Prop :=
  ∀ (s : State) (i : Instr) (op : Byte) (r : Reg) (v : Byte),
    (i, op, r, v) ∈ [(Instr.tax, (0xAA : Byte), Reg.x, s.a), (.tay, 0xA8, .y, s.a), (.txa, 0x8A, .a, s.x),
      (.tya, 0x98, .a, s.y), (.tsx, 0xBA, .x, s.sp)] →
    encode i = [op] ∧ ∃ t cost, exec i s = .next t ∧ Advances s t 1 cost ∧
      t.reg r = v ∧ ZNOf v s t ∧ RegsKept [r] s t ∧ t.sp = s.sp ∧ MemKept [] s t

/-- R182: TXS accepts any value, writes SP and no flag, and does not touch the shadow stack. -/
def Obligations.TxsWritesSpAndNoFlag : Prop :=
  encode .txs = [0x9A] ∧ ∀ s : State, ∃ t cost, exec .txs s = .next t ∧ Advances s t 1 cost ∧
    t.sp = s.x ∧ t.p = s.p ∧ RegsKept [] s t ∧ MemKept [] s t

/-! ### Shifts, increments and decrements (44_shift_incdec.md) -/

/-- R230 to R236 on memory: ASL, LSR, ROL, ROR, INC and DEC in their memory forms read the byte at the effective address once
and write the result there; C is the bit shifted off and is kept by INC and DEC, Z and N follow the result. The penalty
on the absolute indexed forms is decision D11 (log 15), the single write decision D38 (log 30); the opcode bytes and base
cycles are those of the opcode table (log 13). -/
def Obligations.ReadModifyWriteMemory : Prop :=
  ∀ (v : Byte) (a : Word) (s : State) (f : ModifyForm) (m : AddrForm) (r : Byte) (c : Bool), f.dst = .mem m →
    let b := memRead s (m.ea s)
    let cin := (s.flag .c).toNat
    (f ∈ aslForms v a ∧ r = BitVec.ofNat 8 (b.toNat * 2) ∧ c = b.getLsbD 7) ∨
      (f ∈ lsrForms v a ∧ r = BitVec.ofNat 8 (b.toNat / 2) ∧ c = b.getLsbD 0) ∨
      (f ∈ rolForms v a ∧ r = BitVec.ofNat 8 (b.toNat * 2 + cin) ∧ c = b.getLsbD 7) ∨
      (f ∈ rorForms v a ∧ r = BitVec.ofNat 8 (b.toNat / 2 + 128 * cin) ∧ c = b.getLsbD 0) ∨
      (f ∈ incForms v a ∧ r = BitVec.ofNat 8 (b.toNat + 1) ∧ c = s.flag .c) ∨
      (f ∈ decForms v a ∧ r = BitVec.ofNat 8 (b.toNat + 255) ∧ c = s.flag .c) →
    (encode f.instr).head? = some f.op ∧ m.length = (encode f.instr).length ∧
    ∃ t, exec f.instr s = .next t ∧ Advances s t m.length (f.base + m.adj s) ∧
      memRead t (m.ea s) = r ∧ MemKept [m.ea s] s t ∧ t.flag .c = c ∧ t.flag .z = decide (r = 0) ∧
      t.flag .n = r.getLsbD 7 ∧ FlagsKept [.c, .z, .n] s t ∧ RegsKept [] s t ∧ t.sp = s.sp ∧
      (s.port ++ [.write (m.ea s) b r s.pc s.cyc]) <+: t.port

/-- R231 to R234 on A: the accumulator forms of ASL, LSR, ROL and ROR. Their 2 cycles and opcode bytes are those of the
opcode table (log 13). -/
def Obligations.ShiftsOfTheAccumulator : Prop :=
  ∀ (s : State) (i : Instr) (op r : Byte) (c : Bool),
    let cin := (s.flag .c).toNat
    (i, op, r, c) ∈ [(Instr.aslAccumulator, (0x0A : Byte), BitVec.ofNat 8 (s.a.toNat * 2), s.a.getLsbD 7),
      (.lsrAccumulator, 0x4A, BitVec.ofNat 8 (s.a.toNat / 2), s.a.getLsbD 0),
      (.rolAccumulator, 0x2A, BitVec.ofNat 8 (s.a.toNat * 2 + cin), s.a.getLsbD 7),
      (.rorAccumulator, 0x6A, BitVec.ofNat 8 (s.a.toNat / 2 + 128 * cin), s.a.getLsbD 0)] →
    encode i = [op] ∧ ∃ t, exec i s = .next t ∧ Advances s t 1 2 ∧ t.a = r ∧ t.flag .c = c ∧
      t.flag .z = decide (r = 0) ∧ t.flag .n = r.getLsbD 7 ∧ FlagsKept [.c, .z, .n] s t ∧ RegsKept [.a] s t ∧
      t.sp = s.sp ∧ MemKept [] s t

/-- R237 to R242: INX, INY, DEX, DEY, INA and DEA wrap modulo 256 and write Z and N alone. -/
def Obligations.RegisterIncrementsWrap : Prop :=
  ∀ (s : State) (i : Instr) (op : Byte) (r : Reg) (n : Nat),
    (i, op, r, n) ∈ [(Instr.inx, (0xE8 : Byte), Reg.x, 1), (.iny, 0xC8, .y, 1), (.dex, 0xCA, .x, 255),
      (.dey, 0x88, .y, 255), (.ina, 0x1A, .a, 1), (.dea, 0x3A, .a, 255)] →
    encode i = [op] ∧ ∃ t cost, exec i s = .next t ∧ Advances s t 1 cost ∧
      (t.reg r).toNat = ((s.reg r).toNat + n) % 256 ∧ ZNOf (t.reg r) s t ∧ RegsKept [r] s t ∧ t.sp = s.sp ∧
      MemKept [] s t

/-! ### Control transfer (45_control_transfer.md) -/

/-- R260 to R269: each branch, conditional or BRA, when its flag has the value that takes it, adds the sign-extended offset to
the post-fetch PC modulo 65536 at a cost of base + 1, or base + 2 when the high nibble of the post-fetch PC changes
(decision D12); otherwise it only advances at base cost. The conditions are the spec's general knowledge (G8), as are
the opcode bytes and the 2 base cycles of the opcode table (log 13). -/
def Obligations.BranchesAddTheOffset : Prop :=
  ∀ (r : Byte) (s : State) (i : Instr) (op : Byte) (taken : Bool),
    (∃ f sense, (i, op, f, sense) ∈ branchForms r ∧ taken = (s.flag f == sense)) ∨ (i = .bra r ∧ op = 0x80 ∧ taken = true) →
    let pcn := s.pc + 2
    let target := BitVec.ofInt 16 (pcn.toNat + r.toInt)
    (encode i).head? = some op ∧ (encode i).length = 2 ∧ ∃ t, exec i s = .next t ∧
      (taken = true → t.pc = target ∧ t.shadow = s.shadow ∧ t.rcalls = s.rcalls ∧
        Accounted s t (if pcn.toNat / 4096 = target.toNat / 4096 then 3 else 4)) ∧
      (taken = false → Advances s t 2 2) ∧
      t.p = s.p ∧ t.sp = s.sp ∧ RegsKept [] s t ∧ MemKept [] s t

/-- R270: JMP in its two forms takes the effective address and touches neither the stack nor the shadow stack. -/
def Obligations.JmpTakesTheTarget : Prop :=
  ∀ (a : Word) (s : State) (i : Instr) (op : Byte) (m : AddrForm),
    (i, op, m) ∈ [(Instr.jmpAbsolute a, (0x4C : Byte), AddrForm.absolute a), (.jmpIndirect a, 0x6C, .indirect a)] →
    (encode i).head? = some op ∧ (encode i).length = 3 ∧ ∃ t cost, exec i s = .next t ∧ t.pc = m.ea s ∧ Accounted s t cost ∧
      t.shadow = s.shadow ∧ t.rcalls = s.rcalls ∧ t.p = s.p ∧ t.sp = s.sp ∧ RegsKept [] s t ∧ MemKept [] s t

/-- R271: JSR with room for two bytes pushes the address of its last byte, high byte first, takes the target, and its 6
cycles (of the opcode table, log 13) go to the routine then innermost. While the shadow stack has room it records the
target and the SP before the pushes (decision D22); a full one is kept, and the call is counted in either case (decision
D20; log 18). With SP = 0x00 the first push faults, with SP = 0x01 the second, after the high byte was written. -/
def Obligations.JsrPushesTheReturnAddress : Prop :=
  ∀ (a : Word) (s : State),
    let ret := s.pc + 2
    ((encode (.jsr a)).head? = some 0x20 ∧ (encode (.jsr a)).length = 3) ∧
    (2 ≤ s.sp.toNat → ∃ t, exec (.jsr a) s = .next t ∧ t.pc = a ∧ t.sp.toNat = s.sp.toNat - 2 ∧
      (memRead t (BitVec.ofNat 16 (0x0100 + s.sp.toNat))).toNat = ret.toNat / 256 ∧
      (memRead t (BitVec.ofNat 16 (0x0100 + s.sp.toNat - 1))).toNat = ret.toNat % 256 ∧
      MemKept [BitVec.ofNat 16 (0x0100 + s.sp.toNat), BitVec.ofNat 16 (0x0100 + s.sp.toNat - 1)] s t ∧
      t.shadow = (if s.shadow.length < s.cfg.shadowDepth then ⟨a, s.sp⟩ :: s.shadow else s.shadow) ∧
      (∀ k : Word, cellGet t.rcalls k.toNat = if k = a then cellGet s.rcalls k.toNat + 1 else cellGet s.rcalls k.toNat) ∧
      Accounted s t 6 ∧ t.p = s.p ∧ RegsKept [] s t) ∧
    (s.sp = 0x01 → ∃ t, exec (.jsr a) s = .next t ∧ Raises s t .stackOverflow 0x20 ∧
      (memRead t 0x0101).toNat = ret.toNat / 256 ∧ MemKept [0x0101] s t) ∧
    (s.sp = 0x00 → ∃ t, exec (.jsr a) s = .next t ∧ Raises s t .stackOverflow 0x20 ∧ MemKept [] s t)

/-- R272: RTS with two bytes to pop takes their word plus one, and pops the top shadow frame exactly when its recorded
SP is SP before the pops plus two (that the top frame alone is compared, at a full shadow stack too, is decision D21, log
18); SP = 0xFF faults at the first pop and SP = 0xFE at the second. -/
def Obligations.RtsPopsTheReturnAddress : Prop :=
  encode .rts = [0x60] ∧ ∀ s : State,
    (s.sp.toNat ≤ 0xFD → ∃ t cost, exec .rts s = .next t ∧
      t.pc = BitVec.ofNat 16 (256 * (memRead s (BitVec.ofNat 16 (0x0100 + s.sp.toNat + 2))).toNat +
        (memRead s (BitVec.ofNat 16 (0x0100 + s.sp.toNat + 1))).toNat + 1) ∧
      t.sp.toNat = s.sp.toNat + 2 ∧
      (∀ f rest, s.shadow = f :: rest → f.sp.toNat = s.sp.toNat + 2 → t.shadow = rest) ∧
      ((∀ f ∈ s.shadow.head?, f.sp.toNat ≠ s.sp.toNat + 2) → t.shadow = s.shadow) ∧
      t.rcalls = s.rcalls ∧ Accounted s t cost ∧ t.p = s.p ∧ RegsKept [] s t ∧ MemKept [] s t) ∧
    (0xFE ≤ s.sp.toNat → ∃ t, exec .rts s = .next t ∧ Raises s t .stackUnderrun 0x60 ∧ MemKept [] s t)

/-- R273: RTI with three bytes to pop takes P with bit 5 forced to 1 (decision D16) and PC without adding one, and does not
touch the shadow stack; with fewer bytes it raises StackUnderrun and P is kept. The 6 cycles are those of the
opcode table (log 13). -/
def Obligations.RtiPopsStatusAndPc : Prop :=
  encode .rti = [0x40] ∧ ∀ s : State,
    (s.sp.toNat ≤ 0xFC → ∃ t, exec .rti s = .next t ∧
      t.p = memRead s (BitVec.ofNat 16 (0x0100 + s.sp.toNat + 1)) ||| 0x20 ∧
      t.pc = BitVec.ofNat 16 (256 * (memRead s (BitVec.ofNat 16 (0x0100 + s.sp.toNat + 3))).toNat +
        (memRead s (BitVec.ofNat 16 (0x0100 + s.sp.toNat + 2))).toNat) ∧
      t.sp.toNat = s.sp.toNat + 3 ∧ t.shadow = s.shadow ∧ t.rcalls = s.rcalls ∧ Accounted s t 6 ∧ RegsKept [] s t ∧
      MemKept [] s t) ∧
    (0xFD ≤ s.sp.toNat → ∃ t, exec .rti s = .next t ∧ Raises s t .stackUnderrun 0x40 ∧ MemKept [] s t)

/-- R274: BRK raises UnimplementedOpcode at its own address, with no push, no vector fetch and no change of P. -/
def Obligations.BrkRaisesUnimplementedOpcode : Prop :=
  encode .brk = [0x00] ∧ ∀ s : State, ∃ t, exec .brk s = .next t ∧ Raises s t .unimplementedOpcode 0x00 ∧
    t.sp = s.sp ∧ t.p = s.p ∧ t.mem = s.mem

/-! ### Stack, flags and NOP (46_stack_flags_misc.md) -/

/-- R290, R292, R293: PHA, PHX and PHY push their register and write no flag, or raise StackOverflow at SP = 0x00 with
nothing written. -/
def Obligations.PushesStoreTheirRegister : Prop :=
  ∀ (s : State) (i : Instr) (op v : Byte),
    (i, op, v) ∈ [(Instr.pha, (0x48 : Byte), s.a), (.phx, 0xDA, s.x), (.phy, 0x5A, s.y)] →
    encode i = [op] ∧
    (s.sp ≠ 0x00 → ∃ t cost, exec i s = .next t ∧ Advances s t 1 cost ∧
      memRead t (BitVec.ofNat 16 (0x0100 + s.sp.toNat)) = v ∧ MemKept [BitVec.ofNat 16 (0x0100 + s.sp.toNat)] s t ∧
      t.sp.toNat = s.sp.toNat - 1 ∧ t.p = s.p ∧ RegsKept [] s t) ∧
    (s.sp = 0x00 → ∃ t, exec i s = .next t ∧ Raises s t .stackOverflow op ∧ t.mem = s.mem)

/-- R291: PHP pushes P as held, or with bit 4 set where PHP_B is force_set (decision D15), and writes no flag. The 3
cycles are those of the opcode table (log 13). -/
def Obligations.PhpPushesTheStatus : Prop :=
  encode .php = [0x08] ∧ ∀ s : State,
    (s.sp ≠ 0x00 → ∃ t, exec .php s = .next t ∧ Advances s t 1 3 ∧
      memRead t (BitVec.ofNat 16 (0x0100 + s.sp.toNat)) = (if s.cfg.phpB = .forceSet then s.p ||| 0x10 else s.p) ∧
      MemKept [BitVec.ofNat 16 (0x0100 + s.sp.toNat)] s t ∧
      t.sp.toNat = s.sp.toNat - 1 ∧ t.p = s.p ∧ RegsKept [] s t) ∧
    (s.sp = 0x00 → ∃ t, exec .php s = .next t ∧ Raises s t .stackOverflow 0x08 ∧ t.mem = s.mem)

/-- R294, R296, R297: PLA, PLX and PLY load the popped byte with Z and N, or raise StackUnderrun at SP = 0xFF. -/
def Obligations.PullsLoadTheirRegister : Prop :=
  ∀ (s : State) (i : Instr) (op : Byte) (r : Reg),
    (i, op, r) ∈ [(Instr.pla, (0x68 : Byte), Reg.a), (.plx, 0xFA, .x), (.ply, 0x7A, .y)] →
    encode i = [op] ∧
    (s.sp ≠ 0xFF → ∃ t cost, exec i s = .next t ∧ Advances s t 1 cost ∧
      t.reg r = memRead s (BitVec.ofNat 16 (0x0100 + s.sp.toNat + 1)) ∧ ZNOf (t.reg r) s t ∧ RegsKept [r] s t ∧
      t.sp.toNat = s.sp.toNat + 1 ∧ MemKept [] s t) ∧
    (s.sp = 0xFF → ∃ t, exec i s = .next t ∧ Raises s t .stackUnderrun op ∧ t.mem = s.mem)

/-- R295: PLP loads every flag from the popped byte, with bit 5 forced to 1 and bit 4 as popped (decision D16), or raises
StackUnderrun at SP = 0xFF. The 4 cycles are those of the opcode table (log 13). -/
def Obligations.PlpLoadsTheStatus : Prop :=
  encode .plp = [0x28] ∧ ∀ s : State,
    (s.sp ≠ 0xFF → ∃ t, exec .plp s = .next t ∧ Advances s t 1 4 ∧ t.flag .u = true ∧
      (∀ f, f ≠ .u → t.flag f = getFlag f (memRead s (BitVec.ofNat 16 (0x0100 + s.sp.toNat + 1)))) ∧
      RegsKept [] s t ∧ t.sp.toNat = s.sp.toNat + 1 ∧ MemKept [] s t) ∧
    (s.sp = 0xFF → ∃ t, exec .plp s = .next t ∧ Raises s t .stackUnderrun 0x28 ∧ t.mem = s.mem)

/-- R298 to R305: each flag instruction writes its flag alone, and NOP nothing, at 2 cycles. The effects are the spec's
general knowledge (G7), the opcode bytes and the 2 cycles those of the opcode table (log 13). -/
def Obligations.FlagInstructionsWriteOneFlag : Prop :=
  (∀ (s : State), ∀ f ∈ flagForms, encode f.1 = [f.2.1] ∧ ∃ t, exec f.1 s = .next t ∧ Advances s t 1 2 ∧
    t.flag f.2.2.1 = f.2.2.2 ∧ FlagsKept [f.2.2.1] s t ∧ RegsKept [] s t ∧ t.sp = s.sp ∧ MemKept [] s t) ∧
  encode .nop = [0xEA] ∧ ∀ s : State, ∃ t, exec .nop s = .next t ∧ Advances s t 1 2 ∧ t.p = s.p ∧ RegsKept [] s t ∧
    t.sp = s.sp ∧ MemKept [] s t

/-! ### Profiler, watch and trace ports (47_tracer_profiler.md) -/

/-- R320, R322, R323: only JSR and RTS touch the shadow stack, and only JSR the call counters; a JSR at a full shadow stack
records no frame (R324, decision D20, log 18). -/
def Obligations.OnlyJsrAndRtsDriveTheProfiler : Prop :=
  ∀ (i : Instr) (s t : State), exec i s = .next t →
    ((∀ a, i ≠ .jsr a) → t.rcalls = s.rcalls) ∧ ((∀ a, i ≠ .jsr a) → i ≠ .rts → t.shadow = s.shadow) ∧
    (s.cfg.shadowDepth ≤ s.shadow.length → i ≠ .rts → t.shadow = s.shadow)

/-- R123, R124, R325: what the forms cost whose statements above leave the cost open: the base cycles of the opcode table
(the spec's general knowledge, log 13) and the nibble penalty of their mode (decision D11, log 15). -/
def Obligations.CompletedFormsCostTheirCycles : Prop :=
  ∀ (v : Byte) (a : Word) (s t : State) (i : Instr) (cost : Nat), (i, cost) ∈ costForms v a s → exec i s = .next t →
    s.run = .running → t.run = .running → Accounted s t cost

/-- R325, R37, and decision D31's bound: a completed instruction adds a cost of 2 to 8 cycles to CYC, and the same cost to the
routine on top of the shadow stack after it, and to no other. -/
def Obligations.CostGoesToTheInnermostRoutine : Prop :=
  ∀ (i : Instr) (s t : State), exec i s = .next t → s.run = .running → t.run = .running →
    ∃ cost, 2 ≤ cost ∧ cost ≤ 8 ∧ Accounted s t cost

/-- R326: N nested JSRs and then N RTSs return to one past the first call site, with SP, the shadow stack, A, X, Y and P as
they were, from any running state with room for them on both stacks. (The RTSs of an inner nest return to one past its
own first call site by the same statement.) -/
def Obligations.NestedCallsReturn : Prop :=
  ∀ (targets : List Word) (s : State), targets ≠ [] → s.run = .running → 2 * targets.length ≤ s.sp.toNat →
    s.shadow.length + targets.length ≤ s.cfg.shadowDepth →
    ∃ t, execAll (targets.map Instr.jsr ++ List.replicate targets.length .rts) s = some t ∧
      t.pc = s.pc + 3 ∧ t.sp = s.sp ∧ t.shadow = s.shadow ∧ t.a = s.a ∧ t.x = s.x ∧ t.y = s.y ∧ t.p = s.p

/-- R330, decision D29: the enclosing routine is that of the frame nearest the top whose recorded SP is SP + 2, and there is
none exactly when no frame matches. -/
def Obligations.EnclosingRoutineIsTheNearestMatch : Prop :=
  ∀ s : State,
    (∀ r, enclosingRoutine s = some r ↔ ∃ above f below, s.shadow = above ++ f :: below ∧ f.target = r ∧
      f.sp.toNat = s.sp.toNat + 2 ∧ ∀ g ∈ above, g.sp.toNat ≠ s.sp.toNat + 2) ∧
    (enclosingRoutine s = none ↔ ∀ f ∈ s.shadow, f.sp.toNat ≠ s.sp.toNat + 2)

/-- R330: the records hold the samples in table order, a record's samples share its index, and neighbouring records have
different indexes. R328: `Watch(phase, pc0)` emits the records of the watches with that address and phase, with the
enclosing routine and CYC, and changes nothing else. R329 (decision D29, log 20): the value of each width. -/
def Obligations.RecordsGroupNeighbouringSamples : Prop :=
  (∀ l : List (Nat × Int),
    (groupSamples l).flatMap (fun g => g.2.map fun v => (g.1, v)) = l ∧
    (groupSamples l).IsChain (fun g h => g.1 ≠ h.1) ∧ ∀ g ∈ groupSamples l, g.2 ≠ []) ∧
  (∀ (phase : WatchPhase) (pc0 : Word) (s : State), ∃ records : List (Nat × List Int),
    watch phase pc0 s =
      { s with port := s.port ++ records.map fun g => .watch (enclosingRoutine s) g.1 s.cyc g.2 } ∧
    records.flatMap (fun g => g.2.map fun v => (g.1, v)) =
      (s.cfg.watches.filter fun w => w.pc = pc0 ∧ w.phase = phase).map (fun w => (w.index, watchValue w s)) ∧
    records.IsChain (fun g h => g.1 ≠ h.1) ∧ ∀ g ∈ records, g.2 ≠ []) ∧
  ∀ (n : Nat) (pc0 : Word) (phase : WatchPhase) (s : State),
    (∀ (o : WatchSource) (b : Byte), (∃ k, o = .mem k ∧ b = memRead s k) ∨ (∃ r, o = .reg r ∧ b = s.reg r) →
      watchValue ⟨n, pc0, phase, .u8, o⟩ s = (b.toNat : Int) ∧
      watchValue ⟨n, pc0, phase, .s8, o⟩ s = if b.toNat < 128 then (b.toNat : Int) else (b.toNat : Int) - 256) ∧
    ∀ k : Word,
      let w := 256 * (memRead s (k + 1)).toNat + (memRead s k).toNat
      watchValue ⟨n, pc0, phase, .u16, .mem k⟩ s = (w : Int) ∧
      watchValue ⟨n, pc0, phase, .s16, .mem k⟩ s = if w < 32768 then (w : Int) else (w : Int) - 65536

/-- R333, decision D31: the cycle marks of two counts are exactly the multiples of 100000 over the old one and not over the
new, and these are the cycles events a completed instruction adds to the port. -/
def Obligations.CycleMarksAreTheMultiplesCrossed : Prop :=
  (∀ (c0 c1 : Count) (e : Event),
    e ∈ cycleMarks c0 c1 ↔ ∃ n, e = .cycles n ∧ n % 100000 = 0 ∧ c0.toNat < n ∧ n ≤ c1.toNat) ∧
  ∀ (i : Instr) (s t : State), exec i s = .next t → s.run = .running → t.run = .running →
    ∃ new, t.port = s.port ++ new ∧
      ∀ n, Event.cycles n ∈ new ↔ n % 100000 = 0 ∧ s.cyc.toNat < n ∧ n ≤ t.cyc.toNat

/-- R331, decision D41: the last event of a completed instruction is its log line, with its own address and the values after
it; no event of an earlier instruction is lost. R70, R332, R333 (decisions D25, D30, D31; log 30): before the log line
stand one write hook for each byte it stores to, the pushes of the stack instructions and JSR's two among them, in the
order of the writes, with the byte before and after and CYC at its start; then its jsr or rts event if it is JSR or RTS,
with CYC before or after its cost as TRACE_CYCLES_POINT says; and the cycle marks. A screen event (R334) follows the hook
of a write that changes the status byte (log 10), and no other event is emitted. The order of the kinds of events is the
model's choice (log 9). -/
def Obligations.CompletedInstructionsLog : Prop :=
  ∀ (i : Instr) (s t : State), exec i s = .next t → s.run = .running → t.run = .running →
    t.port.getLast? = some (.log s.pc t.a t.x t.y t.pc t.sp t.p) ∧ s.port <+: t.port ∧
    let hooks := (storedAddrs i s).flatMap fun k =>
      .write k (memRead s k) (memRead t k) s.pc s.cyc ::
        if s.cfg.screenStatusAddr = some k ∧ memRead s k ≠ memRead t k then [.screen s.cyc] else []
    ∃ calls, t.port = s.port ++ hooks ++ calls ++ cycleMarks s.cyc t.cyc ++ [.log s.pc t.a t.x t.y t.pc t.sp t.p] ∧
      let point := if s.cfg.traceCyclesPoint = .after then t.cyc else s.cyc
      (∀ a, i = .jsr a → calls = [.jsr a point]) ∧ (i = .rts → calls = [.rts point]) ∧
      ((∀ a, i ≠ .jsr a) → i ≠ .rts → calls = [])

/-! ### Fatal errors (60_exceptions.md) -/

/-- R350, R351, R358: an instruction that does not complete raises UnimplementedOpcode, StackOverflow or StackUnderrun at its
own address and with its own opcode byte, adds no cycle and changes neither A, X, Y, P nor the profiler. -/
def Obligations.FatalErrorsArePrecise : Prop :=
  ∀ (i : Instr) (s t : State), exec i s = .next t → s.run = .running → t.run ≠ .running →
    ∃ kind op, kind ∈ [FatalKind.unimplementedOpcode, .stackOverflow, .stackUnderrun] ∧
      (encode i).head? = some op ∧ Raises s t kind op

/-! ### The step and the whole machine (40_step.md, 10_state.md, 70_reset_and_hazards.md) -/

/-- R120: in a running state whose boundary lets the run go on, and where the bytes at PC decode to an instruction, the step
is that instruction's execution, after the boundary and the pre-phase watch and before the post-phase watch. With no
quit pending, no frame limit and no watch these add nothing but an empty port. -/
def Obligations.StepRunsTheDecodedInstruction : Prop :=
  (∀ (s : State) (i : Instr) (rest : List Byte), s.run = .running → (boundary s).run = .running →
    decode s.cfg.zpiOps (fetchBytes s) = .instr i rest →
    step s = finishStep s.pc (exec i (watch .pre s.pc (boundary s)))) ∧
  (∀ (s : State) (i : Instr) (rest : List Byte), s.run = .running → s.hostQuit = [] → s.cfg.frameAddr = none →
    s.cfg.watches = [] → decode s.cfg.zpiOps (fetchBytes s) = .instr i rest →
    step s = exec i { s with port := [] })

/-- R352, R97: where the boundary lets the run go on and the byte at PC has no entry, the step raises DecodeError with PC's
value and the byte; PC moves past the opcode byte alone, and no other register nor memory changes. -/
def Obligations.StepRaisesDecodeError : Prop :=
  ∀ s : State, s.run = .running → (boundary s).run = .running →
    decode s.cfg.zpiOps (fetchBytes s) = .undefinedOpcode (memRead s s.pc) →
    ∃ t, step s = .next t ∧ t.run = .fatal .decodeError (some s.pc) (some (memRead s s.pc)) ∧ t.pc = s.pc + 1 ∧
      t.sp = s.sp ∧ t.p = s.p ∧ RegsKept [] s t ∧ t.mem = s.mem ∧ t.cyc = s.cyc ∧
      t.port.getLast? = some (.error (some s.pc) .decodeError)

/-- R128: a run that has stopped or failed takes no step. -/
def Obligations.EndedRunsTakeNoStep : Prop :=
  ∀ s t : State, s.run ≠ .running → step s ≠ .next t

/-- R127, R130 (decisions D39, D24): a quit pending at the boundary stops the run; otherwise, with FRAME_ADDR and FRAME_LIMIT
set, a boundary at FRAME_ADDR counts a pass, and stops the run before the fetch when the count reaches the limit. A
stopped step changes nothing else but the model's own fields: it takes its entry of the quit signals (log 7) and
empties the port (log 8). -/
def Obligations.BoundaryStopsTheRun : Prop :=
  ∀ s : State, s.run = .running →
    (∀ later, s.hostQuit = true :: later →
      step s = .next { s with run := .stopped .quit, hostQuit := later, port := [] }) ∧
    (∀ limit, s.hostQuit.head? ≠ some true → s.cfg.frameAddr = some s.pc → s.cfg.frameLimit = some limit →
      s.frames + 1 = limit →
      step s = .next { s with
        run := .stopped .frameLimit, frames := s.frames + 1, hostQuit := s.hostQuit.tail, port := [] }) ∧
    (∀ limit t, s.hostQuit.head? ≠ some true → s.cfg.frameLimit = some limit → step s = .next t →
      t.frames = if s.cfg.frameAddr = some s.pc then s.frames + 1 else s.frames)

/-- R31, R39, R60, R323: every step keeps the invariant: canonical memory and counters, bit 5 of P set, the bound of the
shadow stack, and recorded SPs of at least 2. -/
def Obligations.StepKeepsTheInvariant : Prop :=
  ∀ s t : State, s.Inv → step s = .next t → t.Inv

/-- R43: the state at the start of a run meets the invariant, holds the values of R43 (those of the registers are decision
D13; START_ADDR = 0x0000 and the default parameters are the model's choice, log 1, 3 and 4), and every byte of memory
is 0x00. -/
def Obligations.ResetMeetsTheInvariant : Prop :=
  State.reset.Inv ∧ State.reset.sp = 0xFF ∧ State.reset.p = 0x20 ∧ (∀ q, State.reset.reg q = 0x00) ∧
    State.reset.cyc = 0 ∧ State.reset.shadow = [] ∧ State.reset.frames = 0 ∧ State.reset.run = .running ∧
    ∀ k : Word, memRead State.reset k = 0x00 ∧ cellGet State.reset.rcyc k.toNat = 0 ∧ cellGet State.reset.rcalls k.toNat = 0

/-- Every state with RUN = Running has exactly one next step (93_implementation_defined.md, after U16), and a step changes
neither the parameters nor the watch table (R38). -/
def Obligations.RunningStatesHaveANextState : Prop :=
  ∀ s : State, s.run = .running → ∃ t, step s = .next t ∧ t.cfg = s.cfg

/-- R42, R392, R39: no program can observe CYC, the profiler, the ports or the observers' settings: two states that agree on
what a program can observe answer next states that agree on it, for every instruction. -/
def Obligations.InstructionsCannotObserveTheProfiler : Prop :=
  ∀ (i : Instr) (s s' : State), s.SameCore s' →
    ∃ t t', exec i s = .next t ∧ exec i s' = .next t' ∧ t.SameCore t'

/-- R21, R22, R23, R25: only the named instructions write A, X, Y or SP. -/
def Obligations.OnlyNamedInstructionsWriteRegisters : Prop :=
  ∀ (i : Instr) (s t : State), exec i s = .next t →
    (mnemonicOf i ∉ ["LDA", "PLA", "TXA", "TYA", "ADC", "SBC", "AND", "ORA", "EOR", "ASL", "LSR", "ROL", "ROR", "INA",
      "DEA"] → t.a = s.a) ∧
    (mnemonicOf i ∉ ["LDX", "TAX", "TSX", "INX", "DEX", "PLX"] → t.x = s.x) ∧
    (mnemonicOf i ∉ ["LDY", "TAY", "INY", "DEY", "PLY"] → t.y = s.y) ∧
    (mnemonicOf i ∉ ["TXS", "PHA", "PHP", "PHX", "PHY", "PLA", "PLP", "PLX", "PLY", "JSR", "RTS", "RTI"] → t.sp = s.sp)

/-- R35: only the named instructions write each flag; Z and N are written by the instructions of R36. -/
def Obligations.OnlyNamedInstructionsWriteFlags : Prop :=
  ∀ (i : Instr) (s t : State), exec i s = .next t → mnemonicOf i ∉ ["PLP", "RTI"] →
    (mnemonicOf i ∉ ["ADC", "SBC", "CMP", "CPX", "CPY", "ASL", "LSR", "ROL", "ROR", "CLC", "SEC"] →
      t.flag .c = s.flag .c) ∧
    (mnemonicOf i ∉ ["CLI", "SEI"] → t.flag .i = s.flag .i) ∧ (mnemonicOf i ∉ ["CLD", "SED"] → t.flag .d = s.flag .d) ∧
    t.flag .b = s.flag .b ∧ t.flag .u = s.flag .u ∧
    (mnemonicOf i ∉ ["ADC", "SBC", "BIT", "CLV"] → t.flag .v = s.flag .v) ∧
    (mnemonicOf i ∉ ["ADC", "SBC", "AND", "ORA", "EOR", "CMP", "CPX", "CPY", "BIT", "ASL", "LSR", "ROL", "ROR", "INC",
      "DEC", "INX", "DEX", "INY", "DEY", "INA", "DEA", "LDA", "LDX", "LDY", "TAX", "TAY", "TXA", "TYA", "TSX", "PLA",
      "PLX", "PLY"] → t.flag .z = s.flag .z ∧ t.flag .n = s.flag .n)

/-- R67: an instruction changes no byte of memory but those it stores to: the effective address of a store or a memory
read-modify-write form, the stack byte of a push, the two of JSR. -/
def Obligations.OnlyStoredBytesChange : Prop :=
  ∀ (i : Instr) (s t : State), exec i s = .next t → MemKept (storedAddrs i s) s t

/-- R380, R381, decision D27: after the load, byte `i` of the image stands at LOAD_BASE + i, bytes past 0xFFFF are dropped,
every other byte is 0x00, and the rest of the state is that of R43 with the parameters and START_ADDR given. R382, R356: an
image that cannot be read leaves RUN = Fatal(IOError), from which no step is taken and no profiling row exists. R357: a
readable image with a rejected watch starts no run. (Log 26; the state of R43 is decision D13, log 4.) -/
def Obligations.ImageLoadsWithoutWrap : Prop :=
  (∀ (cfg : Params) (start base : Word) (image : List Byte) (s : State), setup cfg start base (some image) = some s →
    Memory.wf s.mem = true ∧ s = { State.reset with cfg := cfg, pc := start, mem := s.mem } ∧
    s.pc = start ∧ s.run = .running ∧ s.port = [] ∧
    ∀ k : Word, memRead s k = if base.toNat ≤ k.toNat then image.getD (k.toNat - base.toNat) 0x00 else 0x00) ∧
  (∀ (cfg : Params) (start base : Word), ∃ s, setup cfg start base none = some s ∧ s.run = .fatal .ioError none none ∧
    s.port = [.error none .ioError] ∧ s.mem = [] ∧ (∀ t, step s ≠ .next t) ∧ ∀ r, profileRow s r = none) ∧
  ∀ (cfg : Params) (start base : Word) (image : List Byte),
    setup cfg start base (some image) = none ↔ ∃ w ∈ cfg.watches, w.accepted = false
end

