-- ==== Sys2Proof/Laws/Bytes.lean ====
section
/-! SUPPORT. The byte-order and extension helpers as arithmetic, and the effective addresses as numbers. -/

namespace Sys2Proof

@[simp] theorem wordOf_toNat (hi lo : Byte) : (wordOf hi lo).toNat = 256 * hi.toNat + lo.toNat := by
  have h : wordOf hi lo = BitVec.append hi lo := rfl
  have e := BitVec.toNat_append hi lo
  rw [show (wordOf hi lo).toNat = (hi ++ lo).toNat from rfl, e, ← Nat.shiftLeft_add_eq_or_of_lt lo.isLt, Nat.shiftLeft_eq]
  omega

@[simp] theorem highByte_toNat (w : Word) : (highByte w).toNat = w.toNat / 256 := by
  have := w.isLt
  simp only [highByte, BitVec.extractLsb'_toNat, Nat.shiftRight_eq_div_pow]
  omega

@[simp] theorem lowByte_toNat (w : Word) : (lowByte w).toNat = w.toNat % 256 := by
  simp [lowByte, BitVec.extractLsb'_toNat]

/-- A word is its high and its low byte. -/
@[simp] theorem wordOf_high_low (w : Word) : wordOf (highByte w) (lowByte w) = w := by
  apply BitVec.eq_of_toNat_eq
  simp
  omega

namespace Machine

@[simp] theorem zext16_toNat (v : Byte) : (zext16 v).toNat = v.toNat := by
  have := v.isLt
  simp only [zext16, BitVec.toNat_setWidth]
  omega

@[simp] theorem stackAddr_toNat (sp : Byte) : (stackAddr sp).toNat = 0x0100 + sp.toNat := by
  have := sp.isLt
  simp only [stackAddr, BitVec.toNat_add, zext16_toNat]
  simp
  omega

theorem stackAddr_eq (sp : Byte) : stackAddr sp = BitVec.ofNat 16 (0x0100 + sp.toNat) := by
  have := sp.isLt
  apply BitVec.eq_of_toNat_eq
  simp
  omega

/-- The penalty is 0 or 1. -/
theorem cross_le (base ea : Word) : cross base ea ≤ 1 := by unfold cross; split <;> omega

theorem AddrForm.adj_le (m : AddrForm) (s : State) : m.adj s ≤ 1 := by
  cases m <;> simp [AddrForm.adj, cross_le]

theorem Source.adj_le (o : Source) (s : State) : o.adj s ≤ 1 := by
  cases o <;> simp [Source.adj, AddrForm.adj_le]

theorem Target.adj_le (o : Target) (s : State) : o.adj s ≤ 1 := by
  cases o <;> simp [Target.adj, AddrForm.adj_le]

end Machine

end Sys2Proof
end

