-- ==== Sys2Proof/Laws/Flags.lean ====
section
/-! SUPPORT. What the flag accessors and the flag computations do, once for each. -/

namespace Sys2Proof.Machine

theorem flagBit_lt (f : Flag) : flagBit f < 8 := by cases f <;> decide

theorem flagBit_inj {f g : Flag} (h : flagBit f = flagBit g) : f = g := by
  cases f <;> cases g <;> first | rfl | exact absurd h (by decide)

/-- A flag after a write of a flag: the written value, or the old one for the seven others. -/
@[simp] theorem getFlag_putFlag (f g : Flag) (on : Bool) (p : Byte) :
    getFlag g (putFlag f on p) = if g = f then on else getFlag g p := by
  have hg := flagBit_lt g
  have hne : g ≠ f → flagBit g ≠ flagBit f := fun h e => h (flagBit_inj e)
  unfold getFlag putFlag
  by_cases h : g = f
  · subst h
    cases on <;> simp [hg]
  · have h' := hne h
    cases on <;> simp [h] <;> omega

/-- P is its eight flags. -/
theorem status_ext {p q : Byte} (h : ∀ f, getFlag f p = getFlag f q) : p = q := by
  apply BitVec.eq_of_getLsbD_eq
  intro i hi
  have h0 := h .c; have h1 := h .z; have h2 := h .i; have h3 := h .d
  have h4 := h .b; have h5 := h .u; have h6 := h .v; have h7 := h .n
  simp only [getFlag, flagBit] at h0 h1 h2 h3 h4 h5 h6 h7
  match i, hi with
  | 0, _ => exact h0
  | 1, _ => exact h1
  | 2, _ => exact h2
  | 3, _ => exact h3
  | 4, _ => exact h4
  | 5, _ => exact h5
  | 6, _ => exact h6
  | 7, _ => exact h7

/-- The flags after `SetZN(v)` (10_state.md R34). -/
theorem getFlag_setZN (g : Flag) (v p : Byte) :
    getFlag g (setZN v p) =
      if g = .n then v.getLsbD 7 else if g = .z then decide (v = 0) else getFlag g p := by
  simp [setZN, beq_eq_decide]

/-- The flags after a compare (43_alu.md R208). -/
theorem getFlag_compareFlags (g : Flag) (r m p : Byte) :
    getFlag g (compareFlags r m p) =
      if g = .n then (r - m).getLsbD 7 else if g = .z then decide (r = m) else
        if g = .c then decide (r ≥ m) else getFlag g p := by
  simp [compareFlags, beq_eq_decide]

/-- The flags after BIT (R212). -/
theorem getFlag_bitFlags (g : Flag) (a m p : Byte) :
    getFlag g (bitFlags a m p) =
      if g = .v then m.getLsbD 6 else if g = .n then m.getLsbD 7 else
        if g = .z then decide (a &&& m = 0) else getFlag g p := by
  simp [bitFlags, beq_eq_decide]

/-- The flags after a shift or rotate (44_shift_incdec.md). -/
theorem getFlag_shifted (g : Flag) (r : Byte) (out : Bool) (p : Byte) :
    getFlag g (shifted r out p).2 =
      if g = .n then r.getLsbD 7 else if g = .z then decide (r = 0) else if g = .c then out else getFlag g p := by
  simp [shifted, getFlag_setZN]

@[simp] theorem shifted_fst (r : Byte) (out : Bool) (p : Byte) : (shifted r out p).1 = r := rfl

/-- `p | 0x20` forces bit 5 and keeps the seven other flags (R273, R295). -/
@[simp] theorem getFlag_or_bit5 (g : Flag) (p : Byte) :
    getFlag g (p ||| 0x20) = if g = .u then true else getFlag g p := by
  have : p ||| 0x20 = putFlag .u true p := rfl
  rw [this, getFlag_putFlag]

end Sys2Proof.Machine
end

