-- ==== Sys2Proof/Laws/State.lean ====
section
/-! SUPPORT. One lemma per field per named update of the state, so that no later proof unfolds a record update. -/

namespace Sys2Proof.Machine

/-! ### setPc -/

@[simp] theorem State.setPc_a (s : State) (w : Word) : (s.setPc w).a = s.a := rfl
@[simp] theorem State.setPc_x (s : State) (w : Word) : (s.setPc w).x = s.x := rfl
@[simp] theorem State.setPc_y (s : State) (w : Word) : (s.setPc w).y = s.y := rfl
@[simp] theorem State.setPc_sp (s : State) (w : Word) : (s.setPc w).sp = s.sp := rfl
@[simp] theorem State.setPc_p (s : State) (w : Word) : (s.setPc w).p = s.p := rfl
@[simp] theorem State.setPc_pc (s : State) (w : Word) : (s.setPc w).pc = w := rfl
@[simp] theorem State.setPc_cyc (s : State) (w : Word) : (s.setPc w).cyc = s.cyc := rfl
@[simp] theorem State.setPc_mem (s : State) (w : Word) : (s.setPc w).mem = s.mem := rfl
@[simp] theorem State.setPc_shadow (s : State) (w : Word) : (s.setPc w).shadow = s.shadow := rfl
@[simp] theorem State.setPc_rcyc (s : State) (w : Word) : (s.setPc w).rcyc = s.rcyc := rfl
@[simp] theorem State.setPc_rcalls (s : State) (w : Word) : (s.setPc w).rcalls = s.rcalls := rfl
@[simp] theorem State.setPc_frames (s : State) (w : Word) : (s.setPc w).frames = s.frames := rfl
@[simp] theorem State.setPc_run (s : State) (w : Word) : (s.setPc w).run = s.run := rfl
@[simp] theorem State.setPc_cfg (s : State) (w : Word) : (s.setPc w).cfg = s.cfg := rfl
@[simp] theorem State.setPc_hostQuit (s : State) (w : Word) : (s.setPc w).hostQuit = s.hostQuit := rfl
@[simp] theorem State.setPc_port (s : State) (w : Word) : (s.setPc w).port = s.port := rfl

/-! ### setSp -/

@[simp] theorem State.setSp_a (s : State) (v : Byte) : (s.setSp v).a = s.a := rfl
@[simp] theorem State.setSp_x (s : State) (v : Byte) : (s.setSp v).x = s.x := rfl
@[simp] theorem State.setSp_y (s : State) (v : Byte) : (s.setSp v).y = s.y := rfl
@[simp] theorem State.setSp_sp (s : State) (v : Byte) : (s.setSp v).sp = v := rfl
@[simp] theorem State.setSp_p (s : State) (v : Byte) : (s.setSp v).p = s.p := rfl
@[simp] theorem State.setSp_pc (s : State) (v : Byte) : (s.setSp v).pc = s.pc := rfl
@[simp] theorem State.setSp_cyc (s : State) (v : Byte) : (s.setSp v).cyc = s.cyc := rfl
@[simp] theorem State.setSp_mem (s : State) (v : Byte) : (s.setSp v).mem = s.mem := rfl
@[simp] theorem State.setSp_shadow (s : State) (v : Byte) : (s.setSp v).shadow = s.shadow := rfl
@[simp] theorem State.setSp_rcyc (s : State) (v : Byte) : (s.setSp v).rcyc = s.rcyc := rfl
@[simp] theorem State.setSp_rcalls (s : State) (v : Byte) : (s.setSp v).rcalls = s.rcalls := rfl
@[simp] theorem State.setSp_frames (s : State) (v : Byte) : (s.setSp v).frames = s.frames := rfl
@[simp] theorem State.setSp_run (s : State) (v : Byte) : (s.setSp v).run = s.run := rfl
@[simp] theorem State.setSp_cfg (s : State) (v : Byte) : (s.setSp v).cfg = s.cfg := rfl
@[simp] theorem State.setSp_hostQuit (s : State) (v : Byte) : (s.setSp v).hostQuit = s.hostQuit := rfl
@[simp] theorem State.setSp_port (s : State) (v : Byte) : (s.setSp v).port = s.port := rfl

/-! ### setP -/

@[simp] theorem State.setP_a (s : State) (v : Byte) : (s.setP v).a = s.a := rfl
@[simp] theorem State.setP_x (s : State) (v : Byte) : (s.setP v).x = s.x := rfl
@[simp] theorem State.setP_y (s : State) (v : Byte) : (s.setP v).y = s.y := rfl
@[simp] theorem State.setP_sp (s : State) (v : Byte) : (s.setP v).sp = s.sp := rfl
@[simp] theorem State.setP_p (s : State) (v : Byte) : (s.setP v).p = v := rfl
@[simp] theorem State.setP_pc (s : State) (v : Byte) : (s.setP v).pc = s.pc := rfl
@[simp] theorem State.setP_cyc (s : State) (v : Byte) : (s.setP v).cyc = s.cyc := rfl
@[simp] theorem State.setP_mem (s : State) (v : Byte) : (s.setP v).mem = s.mem := rfl
@[simp] theorem State.setP_shadow (s : State) (v : Byte) : (s.setP v).shadow = s.shadow := rfl
@[simp] theorem State.setP_rcyc (s : State) (v : Byte) : (s.setP v).rcyc = s.rcyc := rfl
@[simp] theorem State.setP_rcalls (s : State) (v : Byte) : (s.setP v).rcalls = s.rcalls := rfl
@[simp] theorem State.setP_frames (s : State) (v : Byte) : (s.setP v).frames = s.frames := rfl
@[simp] theorem State.setP_run (s : State) (v : Byte) : (s.setP v).run = s.run := rfl
@[simp] theorem State.setP_cfg (s : State) (v : Byte) : (s.setP v).cfg = s.cfg := rfl
@[simp] theorem State.setP_hostQuit (s : State) (v : Byte) : (s.setP v).hostQuit = s.hostQuit := rfl
@[simp] theorem State.setP_port (s : State) (v : Byte) : (s.setP v).port = s.port := rfl

/-! ### setRun -/

@[simp] theorem State.setRun_a (s : State) (r : RunStatus) : (s.setRun r).a = s.a := rfl
@[simp] theorem State.setRun_x (s : State) (r : RunStatus) : (s.setRun r).x = s.x := rfl
@[simp] theorem State.setRun_y (s : State) (r : RunStatus) : (s.setRun r).y = s.y := rfl
@[simp] theorem State.setRun_sp (s : State) (r : RunStatus) : (s.setRun r).sp = s.sp := rfl
@[simp] theorem State.setRun_p (s : State) (r : RunStatus) : (s.setRun r).p = s.p := rfl
@[simp] theorem State.setRun_pc (s : State) (r : RunStatus) : (s.setRun r).pc = s.pc := rfl
@[simp] theorem State.setRun_cyc (s : State) (r : RunStatus) : (s.setRun r).cyc = s.cyc := rfl
@[simp] theorem State.setRun_mem (s : State) (r : RunStatus) : (s.setRun r).mem = s.mem := rfl
@[simp] theorem State.setRun_shadow (s : State) (r : RunStatus) : (s.setRun r).shadow = s.shadow := rfl
@[simp] theorem State.setRun_rcyc (s : State) (r : RunStatus) : (s.setRun r).rcyc = s.rcyc := rfl
@[simp] theorem State.setRun_rcalls (s : State) (r : RunStatus) : (s.setRun r).rcalls = s.rcalls := rfl
@[simp] theorem State.setRun_frames (s : State) (r : RunStatus) : (s.setRun r).frames = s.frames := rfl
@[simp] theorem State.setRun_run (s : State) (r : RunStatus) : (s.setRun r).run = r := rfl
@[simp] theorem State.setRun_cfg (s : State) (r : RunStatus) : (s.setRun r).cfg = s.cfg := rfl
@[simp] theorem State.setRun_hostQuit (s : State) (r : RunStatus) : (s.setRun r).hostQuit = s.hostQuit := rfl
@[simp] theorem State.setRun_port (s : State) (r : RunStatus) : (s.setRun r).port = s.port := rfl

/-! ### emit -/

@[simp] theorem State.emit_a (s : State) (es : List Event) : (s.emit es).a = s.a := rfl
@[simp] theorem State.emit_x (s : State) (es : List Event) : (s.emit es).x = s.x := rfl
@[simp] theorem State.emit_y (s : State) (es : List Event) : (s.emit es).y = s.y := rfl
@[simp] theorem State.emit_sp (s : State) (es : List Event) : (s.emit es).sp = s.sp := rfl
@[simp] theorem State.emit_p (s : State) (es : List Event) : (s.emit es).p = s.p := rfl
@[simp] theorem State.emit_pc (s : State) (es : List Event) : (s.emit es).pc = s.pc := rfl
@[simp] theorem State.emit_cyc (s : State) (es : List Event) : (s.emit es).cyc = s.cyc := rfl
@[simp] theorem State.emit_mem (s : State) (es : List Event) : (s.emit es).mem = s.mem := rfl
@[simp] theorem State.emit_shadow (s : State) (es : List Event) : (s.emit es).shadow = s.shadow := rfl
@[simp] theorem State.emit_rcyc (s : State) (es : List Event) : (s.emit es).rcyc = s.rcyc := rfl
@[simp] theorem State.emit_rcalls (s : State) (es : List Event) : (s.emit es).rcalls = s.rcalls := rfl
@[simp] theorem State.emit_frames (s : State) (es : List Event) : (s.emit es).frames = s.frames := rfl
@[simp] theorem State.emit_run (s : State) (es : List Event) : (s.emit es).run = s.run := rfl
@[simp] theorem State.emit_cfg (s : State) (es : List Event) : (s.emit es).cfg = s.cfg := rfl
@[simp] theorem State.emit_hostQuit (s : State) (es : List Event) : (s.emit es).hostQuit = s.hostQuit := rfl
@[simp] theorem State.emit_port (s : State) (es : List Event) : (s.emit es).port = s.port ++ es := rfl

/-! ### setReg -/

@[simp] theorem State.setReg_a_a (s : State) (v : Byte) : (s.setReg .a v).a = v := rfl
@[simp] theorem State.setReg_a_x (s : State) (v : Byte) : (s.setReg .a v).x = s.x := rfl
@[simp] theorem State.setReg_a_y (s : State) (v : Byte) : (s.setReg .a v).y = s.y := rfl
@[simp] theorem State.setReg_x_a (s : State) (v : Byte) : (s.setReg .x v).a = s.a := rfl
@[simp] theorem State.setReg_x_x (s : State) (v : Byte) : (s.setReg .x v).x = v := rfl
@[simp] theorem State.setReg_x_y (s : State) (v : Byte) : (s.setReg .x v).y = s.y := rfl
@[simp] theorem State.setReg_y_a (s : State) (v : Byte) : (s.setReg .y v).a = s.a := rfl
@[simp] theorem State.setReg_y_x (s : State) (v : Byte) : (s.setReg .y v).x = s.x := rfl
@[simp] theorem State.setReg_y_y (s : State) (v : Byte) : (s.setReg .y v).y = v := rfl
@[simp] theorem State.setReg_sp (s : State) (r : Reg) (v : Byte) : (s.setReg r v).sp = s.sp := by cases r <;> rfl
@[simp] theorem State.setReg_p (s : State) (r : Reg) (v : Byte) : (s.setReg r v).p = s.p := by cases r <;> rfl
@[simp] theorem State.setReg_pc (s : State) (r : Reg) (v : Byte) : (s.setReg r v).pc = s.pc := by cases r <;> rfl
@[simp] theorem State.setReg_cyc (s : State) (r : Reg) (v : Byte) : (s.setReg r v).cyc = s.cyc := by cases r <;> rfl
@[simp] theorem State.setReg_mem (s : State) (r : Reg) (v : Byte) : (s.setReg r v).mem = s.mem := by cases r <;> rfl
@[simp] theorem State.setReg_shadow (s : State) (r : Reg) (v : Byte) : (s.setReg r v).shadow = s.shadow := by cases r <;> rfl
@[simp] theorem State.setReg_rcyc (s : State) (r : Reg) (v : Byte) : (s.setReg r v).rcyc = s.rcyc := by cases r <;> rfl
@[simp] theorem State.setReg_rcalls (s : State) (r : Reg) (v : Byte) : (s.setReg r v).rcalls = s.rcalls := by cases r <;> rfl
@[simp] theorem State.setReg_frames (s : State) (r : Reg) (v : Byte) : (s.setReg r v).frames = s.frames := by cases r <;> rfl
@[simp] theorem State.setReg_run (s : State) (r : Reg) (v : Byte) : (s.setReg r v).run = s.run := by cases r <;> rfl
@[simp] theorem State.setReg_cfg (s : State) (r : Reg) (v : Byte) : (s.setReg r v).cfg = s.cfg := by cases r <;> rfl
@[simp] theorem State.setReg_hostQuit (s : State) (r : Reg) (v : Byte) : (s.setReg r v).hostQuit = s.hostQuit := by cases r <;> rfl
@[simp] theorem State.setReg_port (s : State) (r : Reg) (v : Byte) : (s.setReg r v).port = s.port := by cases r <;> rfl

/-- Reading a general register after a write of one. -/
@[simp] theorem State.reg_setReg (s : State) (r q : Reg) (v : Byte) :
    (s.setReg r v).reg q = if q = r then v else s.reg q := by cases r <;> cases q <;> rfl

@[simp] theorem State.reg_a (s : State) : s.reg .a = s.a := rfl
@[simp] theorem State.reg_x (s : State) : s.reg .x = s.x := rfl
@[simp] theorem State.reg_y (s : State) : s.reg .y = s.y := rfl
@[simp] theorem State.reg_setPc (s : State) (w : Word) (q : Reg) : (s.setPc w).reg q = s.reg q := by cases q <;> rfl
@[simp] theorem State.reg_setSp (s : State) (v : Byte) (q : Reg) : (s.setSp v).reg q = s.reg q := by cases q <;> rfl
@[simp] theorem State.reg_setP (s : State) (v : Byte) (q : Reg) : (s.setP v).reg q = s.reg q := by cases q <;> rfl
@[simp] theorem State.reg_setRun (s : State) (r : RunStatus) (q : Reg) : (s.setRun r).reg q = s.reg q := by cases q <;> rfl
@[simp] theorem State.reg_emit (s : State) (es : List Event) (q : Reg) : (s.emit es).reg q = s.reg q := by cases q <;> rfl

/-! ### Reading memory after an update that keeps it -/

@[simp] theorem memRead_setPc (s : State) (w : Word) (k : Word) : memRead (s.setPc w) k = memRead s k := rfl
@[simp] theorem memRead_setSp (s : State) (v : Byte) (k : Word) : memRead (s.setSp v) k = memRead s k := rfl
@[simp] theorem memRead_setP (s : State) (v : Byte) (k : Word) : memRead (s.setP v) k = memRead s k := rfl
@[simp] theorem memRead_setRun (s : State) (r : RunStatus) (k : Word) : memRead (s.setRun r) k = memRead s k := rfl
@[simp] theorem memRead_emit (s : State) (es : List Event) (k : Word) : memRead (s.emit es) k = memRead s k := rfl
@[simp] theorem memRead_setReg (s : State) (r : Reg) (v : Byte) (k : Word) : memRead (s.setReg r v) k = memRead s k := by cases r <;> rfl

/-! ### Flags after an update that keeps them -/

@[simp] theorem State.flag_setPc (s : State) (w : Word) (f : Flag) : (s.setPc w).flag f = s.flag f := rfl
@[simp] theorem State.flag_setSp (s : State) (v : Byte) (f : Flag) : (s.setSp v).flag f = s.flag f := rfl
@[simp] theorem State.flag_setRun (s : State) (r : RunStatus) (f : Flag) : (s.setRun r).flag f = s.flag f := rfl
@[simp] theorem State.flag_emit (s : State) (es : List Event) (f : Flag) : (s.emit es).flag f = s.flag f := rfl
@[simp] theorem State.flag_setReg (s : State) (r : Reg) (v : Byte) (f : Flag) : (s.setReg r v).flag f = s.flag f := by cases r <;> rfl
@[simp] theorem State.flag_setP (s : State) (v : Byte) (f : Flag) : (s.setP v).flag f = getFlag f v := rfl

end Sys2Proof.Machine
end

