-- ==== Sys2Proof/Laws/Memory.lean ====
section
/-! SUPPORT. The laws of the sparse tables, memory and counters alike: what a read gives after a write, in every table, and
that a write keeps the canonical form. -/

namespace Sys2Proof.Machine

/-- A write at the head's key drops the head. -/
theorem cellPut_here {w : Nat} (t : List (Nat × BitVec w)) (k : Nat) (u v : BitVec w) :
    cellPut ((k, u) :: t) k v = cellPut t k v := by rw [cellPut, if_pos rfl]

/-- A write of a later key, or of 0, keeps the head. -/
theorem cellPut_later {w : Nat} (t : List (Nat × BitVec w)) {k' k : Nat} (u : BitVec w) {v : BitVec w} (h1 : k' ≠ k)
    (h2 : k' < k ∨ v = 0) : cellPut ((k', u) :: t) k v = (k', u) :: cellPut t k v := by
  rw [cellPut, if_neg h1, if_pos h2]

/-- A write of something else at an earlier key stands before the head. -/
theorem cellPut_before {w : Nat} (t : List (Nat × BitVec w)) {k' k : Nat} (u : BitVec w) {v : BitVec w} (h1 : k' ≠ k)
    (h2 : ¬ (k' < k ∨ v = 0)) : cellPut ((k', u) :: t) k v = (k, v) :: (k', u) :: t := by
  rw [cellPut, if_neg h1, if_neg h2]

theorem cellGet_here {w : Nat} (t : List (Nat × BitVec w)) (k : Nat) (v : BitVec w) : cellGet ((k, v) :: t) k = v := by
  rw [cellGet, if_pos rfl]

theorem cellGet_past {w : Nat} (t : List (Nat × BitVec w)) {k j : Nat} (v : BitVec w) (h : k ≠ j) :
    cellGet ((k, v) :: t) j = cellGet t j := by rw [cellGet, if_neg h]

/-- A read after a write, at the same key and at another. No canonical form is needed. -/
@[simp] theorem cellGet_cellPut {w : Nat} (t : List (Nat × BitVec w)) (k j : Nat) (v : BitVec w) :
    cellGet (cellPut t k v) j = if j = k then v else cellGet t j := by
  induction t with
  | nil =>
    by_cases hv : v = 0
    · rw [cellPut, if_pos hv]
      split
      · exact hv.symm
      · rfl
    · rw [cellPut, if_neg hv]
      by_cases hj : j = k
      · rw [hj, cellGet_here, if_pos rfl]
      · rw [cellGet_past _ _ (Ne.symm hj), if_neg hj]
  | cons e t ih =>
    obtain ⟨k', u⟩ := e
    by_cases h1 : k' = k
    · subst h1
      rw [cellPut_here, ih]
      by_cases hj : j = k'
      · rw [if_pos hj, if_pos hj]
      · rw [if_neg hj, if_neg hj, cellGet_past _ _ (Ne.symm hj)]
    · by_cases h2 : k' < k ∨ v = 0
      · rw [cellPut_later _ _ h1 h2]
        by_cases hj : k' = j
        · subst hj
          rw [cellGet_here, cellGet_here, if_neg h1]
        · rw [cellGet_past _ _ hj, cellGet_past _ _ hj, ih]
      · rw [cellPut_before _ _ h1 h2]
        by_cases hj : j = k
        · rw [hj, cellGet_here, if_pos rfl]
        · rw [cellGet_past _ _ (Ne.symm hj), if_neg hj]

/-- A canonical form from a later key on is one from an earlier key on. -/
theorem cellsFrom_mono {w : Nat} {lo lo' : Nat} (h : lo ≤ lo') {t : List (Nat × BitVec w)} (ht : cellsFrom lo' t = true) :
    cellsFrom lo t = true := by
  cases t with
  | nil => rfl
  | cons e t =>
    simp only [cellsFrom, Bool.and_eq_true, decide_eq_true_eq] at ht ⊢
    exact ⟨⟨⟨by omega, ht.1.1.2⟩, ht.1.2⟩, ht.2⟩

/-- The canonical form of a table with a head. -/
theorem cellsFrom_cons {w : Nat} {lo k : Nat} {v : BitVec w} {t : List (Nat × BitVec w)} :
    cellsFrom lo ((k, v) :: t) = true ↔ (lo ≤ k ∧ k < 65536 ∧ v ≠ 0) ∧ cellsFrom (k + 1) t = true := by
  rw [cellsFrom, Bool.and_eq_true, Bool.and_eq_true, Bool.and_eq_true, decide_eq_true_eq, decide_eq_true_eq, bne_iff_ne,
    and_assoc (a := lo ≤ k)]

/-- Writing 0 below every listed key keeps the canonical form. -/
theorem cellsFrom_cellPut_zero {w : Nat} {lo : Nat} {t : List (Nat × BitVec w)} (ht : cellsFrom lo t = true) {k : Nat}
    (hk : k < lo) : cellsFrom lo (cellPut t k 0) = true := by
  induction t generalizing lo with
  | nil => rw [cellPut, if_pos rfl]; rfl
  | cons e t ih =>
    obtain ⟨k', u⟩ := e
    obtain ⟨h, ht'⟩ := cellsFrom_cons.mp ht
    rw [cellPut_later _ _ (by omega) (Or.inr rfl)]
    exact cellsFrom_cons.mpr ⟨h, ih ht' (by omega)⟩

/-- A write keeps the canonical form. -/
theorem cellsFrom_cellPut {w : Nat} {lo : Nat} {t : List (Nat × BitVec w)} (ht : cellsFrom lo t = true) {k : Nat}
    (hlo : lo ≤ k) (hk : k < 65536) (v : BitVec w) : cellsFrom lo (cellPut t k v) = true := by
  induction t generalizing lo with
  | nil =>
    by_cases hv : v = 0
    · rw [cellPut, if_pos hv]; rfl
    · rw [cellPut, if_neg hv]; exact cellsFrom_cons.mpr ⟨⟨hlo, hk, hv⟩, rfl⟩
  | cons e t ih =>
    obtain ⟨k', u⟩ := e
    obtain ⟨h, ht'⟩ := cellsFrom_cons.mp ht
    by_cases e1 : k' = k
    · subst e1
      rw [cellPut_here]
      exact ih (cellsFrom_mono (by omega) ht') hlo
    · by_cases e2 : k' < k ∨ v = 0
      · rw [cellPut_later _ _ e1 e2]
        refine cellsFrom_cons.mpr ⟨h, ?_⟩
        by_cases e3 : k' < k
        · exact ih ht' e3
        · rw [e2.resolve_left e3]
          exact cellsFrom_cellPut_zero ht' (by omega)
      · rw [cellPut_before _ _ e1 e2]
        exact cellsFrom_cons.mpr ⟨⟨hlo, hk, fun hv => e2 (Or.inr hv)⟩, cellsFrom_cons.mpr ⟨⟨by omega, h.2⟩, ht'⟩⟩

/-- Every write of a table at a 16-bit address keeps its canonical form. -/
theorem cellsWf_cellPut {w : Nat} {t : List (Nat × BitVec w)} (ht : cellsWf t = true) (k : Word) (v : BitVec w) :
    cellsWf (cellPut t k.toNat v) = true :=
  cellsFrom_cellPut ht (Nat.zero_le _) (by omega) v

/-- Below the first possible key of its canonical form a table holds 0. -/
theorem cellGet_below {w : Nat} {lo : Nat} {t : List (Nat × BitVec w)} (ht : cellsFrom lo t = true) {k : Nat}
    (hk : k < lo) : cellGet t k = 0 := by
  induction t generalizing lo with
  | nil => rfl
  | cons e t ih =>
    obtain ⟨k', u⟩ := e
    obtain ⟨h, ht'⟩ := cellsFrom_cons.mp ht
    rw [cellGet_past _ _ (by omega)]
    exact ih ht' (by omega)

/-- Two tables in canonical form with the same contents are equal. -/
theorem cells_ext {w : Nat} {lo : Nat} {t u : List (Nat × BitVec w)} (ht : cellsFrom lo t = true)
    (hu : cellsFrom lo u = true) (h : ∀ k, cellGet t k = cellGet u k) : t = u := by
  induction t generalizing lo u with
  | nil =>
    cases u with
    | nil => rfl
    | cons d u =>
      obtain ⟨j, x⟩ := d
      have := h j
      rw [cellGet_here] at this
      exact absurd this.symm (cellsFrom_cons.mp hu).1.2.2
  | cons e t ih =>
    obtain ⟨k, v⟩ := e
    obtain ⟨hk, ht'⟩ := cellsFrom_cons.mp ht
    cases u with
    | nil =>
      have := h k
      rw [cellGet_here] at this
      exact absurd this hk.2.2
    | cons d u =>
      obtain ⟨j, x⟩ := d
      obtain ⟨hj, hu'⟩ := cellsFrom_cons.mp hu
      rcases Nat.lt_trichotomy k j with hlt | heq | hgt
      · have := h k
        rw [cellGet_here, cellGet_past _ _ (by omega), cellGet_below hu' (by omega)] at this
        exact absurd this hk.2.2
      · subst heq
        have hv := h k
        rw [cellGet_here, cellGet_here] at hv
        rw [hv, ih ht' hu']
        intro i
        by_cases hi : k = i
        · rw [cellGet_below ht' (by omega), cellGet_below hu' (by omega)]
        · have := h i
          rwa [cellGet_past _ _ hi, cellGet_past _ _ hi] at this
      · have := h j
        rw [cellGet_here, cellGet_past _ _ (by omega), cellGet_below ht' (by omega)] at this
        exact absurd this.symm hj.2.2

/-- Memory is in canonical form at reset. -/
theorem reset_mem_wf : Memory.wf State.reset.mem = true := rfl

/-! ### MemWrite -/
@[simp] theorem memWrite_a (pc0 k : Word) (v : Byte) (s : State) : (memWrite pc0 k v s).a = s.a := rfl
@[simp] theorem memWrite_x (pc0 k : Word) (v : Byte) (s : State) : (memWrite pc0 k v s).x = s.x := rfl
@[simp] theorem memWrite_y (pc0 k : Word) (v : Byte) (s : State) : (memWrite pc0 k v s).y = s.y := rfl
@[simp] theorem memWrite_sp (pc0 k : Word) (v : Byte) (s : State) : (memWrite pc0 k v s).sp = s.sp := rfl
@[simp] theorem memWrite_p (pc0 k : Word) (v : Byte) (s : State) : (memWrite pc0 k v s).p = s.p := rfl
@[simp] theorem memWrite_pc (pc0 k : Word) (v : Byte) (s : State) : (memWrite pc0 k v s).pc = s.pc := rfl
@[simp] theorem memWrite_cyc (pc0 k : Word) (v : Byte) (s : State) : (memWrite pc0 k v s).cyc = s.cyc := rfl
@[simp] theorem memWrite_shadow (pc0 k : Word) (v : Byte) (s : State) : (memWrite pc0 k v s).shadow = s.shadow := rfl
@[simp] theorem memWrite_rcyc (pc0 k : Word) (v : Byte) (s : State) : (memWrite pc0 k v s).rcyc = s.rcyc := rfl
@[simp] theorem memWrite_rcalls (pc0 k : Word) (v : Byte) (s : State) : (memWrite pc0 k v s).rcalls = s.rcalls := rfl
@[simp] theorem memWrite_frames (pc0 k : Word) (v : Byte) (s : State) : (memWrite pc0 k v s).frames = s.frames := rfl
@[simp] theorem memWrite_run (pc0 k : Word) (v : Byte) (s : State) : (memWrite pc0 k v s).run = s.run := rfl
@[simp] theorem memWrite_cfg (pc0 k : Word) (v : Byte) (s : State) : (memWrite pc0 k v s).cfg = s.cfg := rfl
@[simp] theorem memWrite_hostQuit (pc0 k : Word) (v : Byte) (s : State) : (memWrite pc0 k v s).hostQuit = s.hostQuit := rfl
@[simp] theorem memWrite_reg (pc0 k : Word) (v : Byte) (s : State) (q : Reg) : (memWrite pc0 k v s).reg q = s.reg q := by
  cases q <;> rfl
@[simp] theorem memWrite_flag (pc0 k : Word) (v : Byte) (s : State) (f : Flag) : (memWrite pc0 k v s).flag f = s.flag f := rfl

/-- Memory after `MemWrite` (20_memory.md R62): the written byte, and every other byte as before. -/
@[simp] theorem memRead_memWrite (pc0 k j : Word) (v : Byte) (s : State) :
    memRead (memWrite pc0 k v s) j = if j = k then v else memRead s j := by
  show cellGet (cellPut s.mem k.toNat v) j.toNat = _
  rw [cellGet_cellPut]
  by_cases h : j = k
  · simp [h]
  · have h' : ¬ j.toNat = k.toNat := fun e => h (BitVec.eq_of_toNat_eq e)
    simp [h, h', memRead]

/-- `MemWrite` keeps memory's canonical form. -/
theorem memWrite_wf (pc0 k : Word) (v : Byte) (s : State) (h : Memory.wf s.mem = true) :
    Memory.wf (memWrite pc0 k v s).mem = true := cellsWf_cellPut h k v

end Sys2Proof.Machine
end

