-- ==== Sys2Proof/Laws/Execute.lean ====
section
/-! SUPPORT. What the shared operations of an instruction do, once for each: the stack primitives, the accounting, the common
part of an instruction, and the few shapes every instruction has. -/

namespace Sys2Proof.Machine

/-! ### Resolving an operand does not depend on PC -/

@[simp] theorem memRead16_setPc (s : State) (w k : Word) : memRead16 (s.setPc w) k = memRead16 s k := rfl
@[simp] theorem memReadZp16_setPc (s : State) (w : Word) (z : Byte) : memReadZp16 (s.setPc w) z = memReadZp16 s z := rfl
@[simp] theorem AddrForm.ea_setPc (m : AddrForm) (s : State) (w : Word) : m.ea (s.setPc w) = m.ea s := by cases m <;> rfl
@[simp] theorem Source.read_setPc (o : Source) (s : State) (w : Word) : o.read (s.setPc w) = o.read s := by
  cases o with
  | imm v => rfl
  | mem m => simp [Source.read]
@[simp] theorem Target.read_setPc (o : Target) (s : State) (w : Word) : o.read (s.setPc w) = o.read s := by
  cases o with
  | acc => rfl
  | mem m => simp [Target.read]

/-! ### The stack primitives -/

/-- `Push` goes on, with SP not 0x00 before (10_state.md R27). -/
theorem push_ok {pc0 : Word} {v : Byte} {s : State} (h : s.sp ≠ 0x00) :
    push pc0 v s = .ok () ((memWrite pc0 (stackAddr s.sp) v s).setSp (s.sp - 1)) := by rw [push, if_neg h]

/-- `Push` at SP = 0x00 (R27). -/
theorem push_fatal {pc0 : Word} {v : Byte} {s : State} (h : s.sp = 0x00) : push pc0 v s = .fatal .stackOverflow s := by
  rw [push, if_pos h]

/-- `Pop` goes on, with SP not 0xFF before (R28). -/
theorem pop_ok {s : State} (h : s.sp ≠ 0xFF) :
    pop s = .ok (memRead s (stackAddr (s.sp + 1))) (s.setSp (s.sp + 1)) := by rw [pop, if_neg h]

/-- `Pop` at SP = 0xFF (R28). -/
theorem pop_fatal {s : State} (h : s.sp = 0xFF) : pop s = .fatal .stackUnderrun s := by rw [pop, if_pos h]

@[simp] theorem Eff.bind_ok {α β : Type} (v : α) (s : State) (f : α → State → Eff β) : (Eff.ok v s).bind f = f v s := rfl
@[simp] theorem Eff.bind_fatal {α β : Type} (k : FatalKind) (s : State) (f : α → State → Eff β) :
    (Eff.fatal k s).bind f = .fatal k s := rfl

/-- Two stack bytes stand at one address only if their stack pointers are equal. -/
@[simp] theorem stackAddr_inj (a b : Byte) : stackAddr a = stackAddr b ↔ a = b := by
  constructor
  · intro h
    have := congrArg BitVec.toNat h
    simp [stackAddr, zext16] at this
    exact BitVec.eq_of_toNat_eq (by omega)
  · rintro rfl; rfl

/-! ### The profiler and the accounting -/

@[simp] theorem attributeCost_a (n : Nat) (s : State) : (attributeCost n s).a = s.a := by
  unfold attributeCost; split <;> rfl
@[simp] theorem attributeCost_x (n : Nat) (s : State) : (attributeCost n s).x = s.x := by
  unfold attributeCost; split <;> rfl
@[simp] theorem attributeCost_y (n : Nat) (s : State) : (attributeCost n s).y = s.y := by
  unfold attributeCost; split <;> rfl
@[simp] theorem attributeCost_sp (n : Nat) (s : State) : (attributeCost n s).sp = s.sp := by
  unfold attributeCost; split <;> rfl
@[simp] theorem attributeCost_p (n : Nat) (s : State) : (attributeCost n s).p = s.p := by
  unfold attributeCost; split <;> rfl
@[simp] theorem attributeCost_pc (n : Nat) (s : State) : (attributeCost n s).pc = s.pc := by
  unfold attributeCost; split <;> rfl
@[simp] theorem attributeCost_cyc (n : Nat) (s : State) : (attributeCost n s).cyc = s.cyc := by
  unfold attributeCost; split <;> rfl
@[simp] theorem attributeCost_mem (n : Nat) (s : State) : (attributeCost n s).mem = s.mem := by
  unfold attributeCost; split <;> rfl
@[simp] theorem attributeCost_shadow (n : Nat) (s : State) : (attributeCost n s).shadow = s.shadow := by
  unfold attributeCost; split <;> rfl
@[simp] theorem attributeCost_rcalls (n : Nat) (s : State) : (attributeCost n s).rcalls = s.rcalls := by
  unfold attributeCost; split <;> rfl
@[simp] theorem attributeCost_frames (n : Nat) (s : State) : (attributeCost n s).frames = s.frames := by
  unfold attributeCost; split <;> rfl
@[simp] theorem attributeCost_run (n : Nat) (s : State) : (attributeCost n s).run = s.run := by
  unfold attributeCost; split <;> rfl
@[simp] theorem attributeCost_cfg (n : Nat) (s : State) : (attributeCost n s).cfg = s.cfg := by
  unfold attributeCost; split <;> rfl
@[simp] theorem attributeCost_hostQuit (n : Nat) (s : State) : (attributeCost n s).hostQuit = s.hostQuit := by
  unfold attributeCost; split <;> rfl
@[simp] theorem attributeCost_port (n : Nat) (s : State) : (attributeCost n s).port = s.port := by
  unfold attributeCost; split <;> rfl
@[simp] theorem complete_a (pc0 : Word) (n : Nat) (c : CallTrace) (s : State) :
    (complete pc0 n c s).a = s.a := by simp [complete]
@[simp] theorem complete_x (pc0 : Word) (n : Nat) (c : CallTrace) (s : State) :
    (complete pc0 n c s).x = s.x := by simp [complete]
@[simp] theorem complete_y (pc0 : Word) (n : Nat) (c : CallTrace) (s : State) :
    (complete pc0 n c s).y = s.y := by simp [complete]
@[simp] theorem complete_sp (pc0 : Word) (n : Nat) (c : CallTrace) (s : State) :
    (complete pc0 n c s).sp = s.sp := by simp [complete]
@[simp] theorem complete_p (pc0 : Word) (n : Nat) (c : CallTrace) (s : State) :
    (complete pc0 n c s).p = s.p := by simp [complete]
@[simp] theorem complete_pc (pc0 : Word) (n : Nat) (c : CallTrace) (s : State) :
    (complete pc0 n c s).pc = s.pc := by simp [complete]
@[simp] theorem complete_mem (pc0 : Word) (n : Nat) (c : CallTrace) (s : State) :
    (complete pc0 n c s).mem = s.mem := by simp [complete]
@[simp] theorem complete_shadow (pc0 : Word) (n : Nat) (c : CallTrace) (s : State) :
    (complete pc0 n c s).shadow = s.shadow := by simp [complete]
@[simp] theorem complete_rcalls (pc0 : Word) (n : Nat) (c : CallTrace) (s : State) :
    (complete pc0 n c s).rcalls = s.rcalls := by simp [complete]
@[simp] theorem complete_frames (pc0 : Word) (n : Nat) (c : CallTrace) (s : State) :
    (complete pc0 n c s).frames = s.frames := by simp [complete]
@[simp] theorem complete_run (pc0 : Word) (n : Nat) (c : CallTrace) (s : State) :
    (complete pc0 n c s).run = s.run := by simp [complete]
@[simp] theorem complete_cfg (pc0 : Word) (n : Nat) (c : CallTrace) (s : State) :
    (complete pc0 n c s).cfg = s.cfg := by simp [complete]
@[simp] theorem complete_hostQuit (pc0 : Word) (n : Nat) (c : CallTrace) (s : State) :
    (complete pc0 n c s).hostQuit = s.hostQuit := by simp [complete]
@[simp] theorem complete_cyc (pc0 : Word) (n : Nat) (c : CallTrace) (s : State) :
    (complete pc0 n c s).cyc = s.cyc + BitVec.ofNat 64 n := by simp [complete]
@[simp] theorem complete_reg (pc0 : Word) (n : Nat) (c : CallTrace) (s : State) (q : Reg) :
    (complete pc0 n c s).reg q = s.reg q := by cases q <;> simp
@[simp] theorem complete_flag (pc0 : Word) (n : Nat) (c : CallTrace) (s : State) (f : Flag) :
    (complete pc0 n c s).flag f = s.flag f := by simp [State.flag]
@[simp] theorem complete_memRead (pc0 : Word) (n : Nat) (c : CallTrace) (s : State) (k : Word) :
    memRead (complete pc0 n c s) k = memRead s k := by simp [memRead]

/-- A divisor 0 has no quotient. -/
@[simp] theorem quotient_zero (n : Nat) : quotient n 0 = none := rfl

/-- Any other divisor has the exact one. -/
theorem quotient_ok {n d : Nat} (h : d ≠ 0) : quotient n d = some ((n : Rat) / (d : Rat)) := if_neg h

/-- The profiling table's row of a routine (47_tracer_profiler.md R336), in a run that did not end at its load. -/
theorem profileRow_ok {s : State} (h : ∀ a b, s.run ≠ .fatal .ioError a b) (r : Word) :
    profileRow s r = some ⟨r, cellGet s.rcyc r.toNat, quotient (100 * (cellGet s.rcyc r.toNat).toNat) s.cyc.toNat,
      cellGet s.rcalls r.toNat, quotient (cellGet s.rcyc r.toNat).toNat (cellGet s.rcalls r.toNat).toNat⟩ := by
  unfold profileRow
  split
  · exact absurd (by assumption) (h _ _)
  · rfl

/-- There is no profiling table after an image that could not be read (70_reset_and_hazards.md R382). -/
theorem profileRow_ioError {s : State} {a : Option Word} {b : Option Byte} (h : s.run = .fatal .ioError a b) (r : Word) :
    profileRow s r = none := by rw [profileRow, h]

/-- RCYC after the accounting (47_tracer_profiler.md R325). -/
theorem complete_rcyc_get (pc0 : Word) (n : Nat) (c : CallTrace) (s : State) (k : Word) :
    cellGet (complete pc0 n c s).rcyc k.toNat =
      if s.shadow.head?.map (·.target) = some k then cellGet s.rcyc k.toNat + BitVec.ofNat 64 n
      else cellGet s.rcyc k.toNat := by
  have e : (complete pc0 n c s).rcyc = (attributeCost n { s with cyc := s.cyc + BitVec.ofNat 64 n }).rcyc := rfl
  rw [e]
  cases h : s.shadow with
  | nil => simp [attributeCost]
  | cons f rest =>
    by_cases hk : k = f.target
    · simp [attributeCost, hk]
    · have h1 : ¬ k.toNat = f.target.toNat := fun e => hk (BitVec.eq_of_toNat_eq e)
      have h2 : ¬ f.target = k := fun e => hk e.symm
      simp [attributeCost, h1, h2]

/-- The accounting keeps RCYC's canonical form. -/
theorem complete_rcyc_wf (pc0 : Word) (n : Nat) (c : CallTrace) (s : State) (h : Counters.wf s.rcyc = true) :
    Counters.wf (complete pc0 n c s).rcyc = true := by
  have e : (complete pc0 n c s).rcyc = (attributeCost n { s with cyc := s.cyc + BitVec.ofNat 64 n }).rcyc := rfl
  rw [e]
  unfold attributeCost
  split
  · exact h
  · exact cellsWf_cellPut h _ _

/-- The last event of a completed instruction is its log line (R331). -/
theorem complete_port_last (pc0 : Word) (n : Nat) (c : CallTrace) (s : State) :
    (complete pc0 n c s).port.getLast? = some (logEvent pc0 s) := by
  simp [complete, State.emit]

@[simp] theorem shadowCall_a (w : Word) (v : Byte) (s : State) : (shadowCall w v s).a = s.a := by
  simp only [shadowCall, countCall]; split <;> rfl
@[simp] theorem shadowCall_x (w : Word) (v : Byte) (s : State) : (shadowCall w v s).x = s.x := by
  simp only [shadowCall, countCall]; split <;> rfl
@[simp] theorem shadowCall_y (w : Word) (v : Byte) (s : State) : (shadowCall w v s).y = s.y := by
  simp only [shadowCall, countCall]; split <;> rfl
@[simp] theorem shadowCall_sp (w : Word) (v : Byte) (s : State) : (shadowCall w v s).sp = s.sp := by
  simp only [shadowCall, countCall]; split <;> rfl
@[simp] theorem shadowCall_p (w : Word) (v : Byte) (s : State) : (shadowCall w v s).p = s.p := by
  simp only [shadowCall, countCall]; split <;> rfl
@[simp] theorem shadowCall_pc (w : Word) (v : Byte) (s : State) : (shadowCall w v s).pc = s.pc := by
  simp only [shadowCall, countCall]; split <;> rfl
@[simp] theorem shadowCall_cyc (w : Word) (v : Byte) (s : State) : (shadowCall w v s).cyc = s.cyc := by
  simp only [shadowCall, countCall]; split <;> rfl
@[simp] theorem shadowCall_mem (w : Word) (v : Byte) (s : State) : (shadowCall w v s).mem = s.mem := by
  simp only [shadowCall, countCall]; split <;> rfl
@[simp] theorem shadowCall_rcyc (w : Word) (v : Byte) (s : State) : (shadowCall w v s).rcyc = s.rcyc := by
  simp only [shadowCall, countCall]; split <;> rfl
@[simp] theorem shadowCall_frames (w : Word) (v : Byte) (s : State) : (shadowCall w v s).frames = s.frames := by
  simp only [shadowCall, countCall]; split <;> rfl
@[simp] theorem shadowCall_run (w : Word) (v : Byte) (s : State) : (shadowCall w v s).run = s.run := by
  simp only [shadowCall, countCall]; split <;> rfl
@[simp] theorem shadowCall_cfg (w : Word) (v : Byte) (s : State) : (shadowCall w v s).cfg = s.cfg := by
  simp only [shadowCall, countCall]; split <;> rfl
@[simp] theorem shadowCall_hostQuit (w : Word) (v : Byte) (s : State) : (shadowCall w v s).hostQuit = s.hostQuit := by
  simp only [shadowCall, countCall]; split <;> rfl
@[simp] theorem shadowCall_port (w : Word) (v : Byte) (s : State) : (shadowCall w v s).port = s.port := by
  simp only [shadowCall, countCall]; split <;> rfl
@[simp] theorem shadowCall_reg (w : Word) (v : Byte) (s : State) (q : Reg) : (shadowCall w v s).reg q = s.reg q := by
  cases q <;> simp
@[simp] theorem shadowCall_flag (w : Word) (v : Byte) (s : State) (f : Flag) : (shadowCall w v s).flag f = s.flag f := by
  simp [State.flag]
@[simp] theorem shadowCall_memRead (w : Word) (v : Byte) (s : State) (k : Word) :
    memRead (shadowCall w v s) k = memRead s k := by simp [memRead]
/-- SHADOW after `ShadowCall` (R321, R324). -/
theorem shadowCall_shadow (w : Word) (v : Byte) (s : State) :
    (shadowCall w v s).shadow = if s.shadow.length < s.cfg.shadowDepth then ⟨w, v⟩ :: s.shadow else s.shadow := by
  simp only [shadowCall, countCall]; split <;> rfl
/-- RCALLS after `ShadowCall` (R322). -/
theorem shadowCall_rcalls (w : Word) (v : Byte) (s : State) :
    (shadowCall w v s).rcalls = cellPut s.rcalls w.toNat (cellGet s.rcalls w.toNat + 1) := by
  simp only [shadowCall, countCall]; split <;> rfl
@[simp] theorem shadowReturn_a (v : Byte) (s : State) : (shadowReturn v s).a = s.a := by
  unfold shadowReturn; split <;> (try split) <;> rfl
@[simp] theorem shadowReturn_x (v : Byte) (s : State) : (shadowReturn v s).x = s.x := by
  unfold shadowReturn; split <;> (try split) <;> rfl
@[simp] theorem shadowReturn_y (v : Byte) (s : State) : (shadowReturn v s).y = s.y := by
  unfold shadowReturn; split <;> (try split) <;> rfl
@[simp] theorem shadowReturn_sp (v : Byte) (s : State) : (shadowReturn v s).sp = s.sp := by
  unfold shadowReturn; split <;> (try split) <;> rfl
@[simp] theorem shadowReturn_p (v : Byte) (s : State) : (shadowReturn v s).p = s.p := by
  unfold shadowReturn; split <;> (try split) <;> rfl
@[simp] theorem shadowReturn_pc (v : Byte) (s : State) : (shadowReturn v s).pc = s.pc := by
  unfold shadowReturn; split <;> (try split) <;> rfl
@[simp] theorem shadowReturn_cyc (v : Byte) (s : State) : (shadowReturn v s).cyc = s.cyc := by
  unfold shadowReturn; split <;> (try split) <;> rfl
@[simp] theorem shadowReturn_mem (v : Byte) (s : State) : (shadowReturn v s).mem = s.mem := by
  unfold shadowReturn; split <;> (try split) <;> rfl
@[simp] theorem shadowReturn_rcyc (v : Byte) (s : State) : (shadowReturn v s).rcyc = s.rcyc := by
  unfold shadowReturn; split <;> (try split) <;> rfl
@[simp] theorem shadowReturn_rcalls (v : Byte) (s : State) : (shadowReturn v s).rcalls = s.rcalls := by
  unfold shadowReturn; split <;> (try split) <;> rfl
@[simp] theorem shadowReturn_frames (v : Byte) (s : State) : (shadowReturn v s).frames = s.frames := by
  unfold shadowReturn; split <;> (try split) <;> rfl
@[simp] theorem shadowReturn_run (v : Byte) (s : State) : (shadowReturn v s).run = s.run := by
  unfold shadowReturn; split <;> (try split) <;> rfl
@[simp] theorem shadowReturn_cfg (v : Byte) (s : State) : (shadowReturn v s).cfg = s.cfg := by
  unfold shadowReturn; split <;> (try split) <;> rfl
@[simp] theorem shadowReturn_hostQuit (v : Byte) (s : State) : (shadowReturn v s).hostQuit = s.hostQuit := by
  unfold shadowReturn; split <;> (try split) <;> rfl
@[simp] theorem shadowReturn_port (v : Byte) (s : State) : (shadowReturn v s).port = s.port := by
  unfold shadowReturn; split <;> (try split) <;> rfl
@[simp] theorem shadowReturn_reg (v : Byte) (s : State) (q : Reg) : (shadowReturn v s).reg q = s.reg q := by
  cases q <;> simp
@[simp] theorem shadowReturn_flag (v : Byte) (s : State) (f : Flag) : (shadowReturn v s).flag f = s.flag f := by
  simp [State.flag]
@[simp] theorem shadowReturn_memRead (v : Byte) (s : State) (k : Word) :
    memRead (shadowReturn v s) k = memRead s k := by simp [memRead]
/-- SHADOW after `ShadowReturn`: as before, or without its top frame (R323). -/
theorem shadowReturn_shadow (v : Byte) (s : State) :
    (shadowReturn v s).shadow = match s.shadow with
      | [] => []
      | f :: rest => if f.sp.toNat = v.toNat + 2 then rest else f :: rest := by
  unfold shadowReturn
  cases h : s.shadow with
  | nil => simp [h]
  | cons f rest => by_cases e : f.sp.toNat = v.toNat + 2 <;> simp [h, e]

/-! ### The fatal error -/

@[simp] theorem raiseFatal_a (k : FatalKind) (w : Word) (v : Byte) (s : State) : (raiseFatal k w v s).a = s.a := rfl
@[simp] theorem raiseFatal_x (k : FatalKind) (w : Word) (v : Byte) (s : State) : (raiseFatal k w v s).x = s.x := rfl
@[simp] theorem raiseFatal_y (k : FatalKind) (w : Word) (v : Byte) (s : State) : (raiseFatal k w v s).y = s.y := rfl
@[simp] theorem raiseFatal_sp (k : FatalKind) (w : Word) (v : Byte) (s : State) : (raiseFatal k w v s).sp = s.sp := rfl
@[simp] theorem raiseFatal_p (k : FatalKind) (w : Word) (v : Byte) (s : State) : (raiseFatal k w v s).p = s.p := rfl
@[simp] theorem raiseFatal_pc (k : FatalKind) (w : Word) (v : Byte) (s : State) : (raiseFatal k w v s).pc = s.pc := rfl
@[simp] theorem raiseFatal_cyc (k : FatalKind) (w : Word) (v : Byte) (s : State) : (raiseFatal k w v s).cyc = s.cyc := rfl
@[simp] theorem raiseFatal_mem (k : FatalKind) (w : Word) (v : Byte) (s : State) : (raiseFatal k w v s).mem = s.mem := rfl
@[simp] theorem raiseFatal_shadow (k : FatalKind) (w : Word) (v : Byte) (s : State) : (raiseFatal k w v s).shadow = s.shadow := rfl
@[simp] theorem raiseFatal_rcyc (k : FatalKind) (w : Word) (v : Byte) (s : State) : (raiseFatal k w v s).rcyc = s.rcyc := rfl
@[simp] theorem raiseFatal_rcalls (k : FatalKind) (w : Word) (v : Byte) (s : State) : (raiseFatal k w v s).rcalls = s.rcalls := rfl
@[simp] theorem raiseFatal_frames (k : FatalKind) (w : Word) (v : Byte) (s : State) : (raiseFatal k w v s).frames = s.frames := rfl
@[simp] theorem raiseFatal_cfg (k : FatalKind) (w : Word) (v : Byte) (s : State) : (raiseFatal k w v s).cfg = s.cfg := rfl
@[simp] theorem raiseFatal_hostQuit (k : FatalKind) (w : Word) (v : Byte) (s : State) : (raiseFatal k w v s).hostQuit = s.hostQuit := rfl
@[simp] theorem raiseFatal_run (k : FatalKind) (w : Word) (v : Byte) (s : State) :
    (raiseFatal k w v s).run = .fatal k (some w) (some v) := rfl
@[simp] theorem raiseFatal_port (k : FatalKind) (w : Word) (v : Byte) (s : State) :
    (raiseFatal k w v s).port = s.port ++ [.error (some w) k] := rfl
@[simp] theorem raiseFatal_reg (k : FatalKind) (w : Word) (v : Byte) (s : State) (q : Reg) :
    (raiseFatal k w v s).reg q = s.reg q := by cases q <;> rfl
@[simp] theorem raiseFatal_flag (k : FatalKind) (w : Word) (v : Byte) (s : State) (f : Flag) :
    (raiseFatal k w v s).flag f = s.flag f := rfl
@[simp] theorem raiseFatal_memRead (k : FatalKind) (w : Word) (v : Byte) (s : State) (j : Word) :
    memRead (raiseFatal k w v s) j = memRead s j := rfl

/-! ### The common part of an instruction -/

/-- Everything an instruction can do: its rule completes and its cost is accounted, or its rule raises a fatal error. -/
theorem instruction_cases {op : Byte} {base len adj : Nat} {ex : State → Eff Completion} {s t : State}
    (h : instruction op base len adj ex s = .next t) :
    (∃ d u, ex (s.setPc (s.pc + BitVec.ofNat 16 len)) = .ok d u ∧ t = complete s.pc (base + adj + d.adjBranch) d.call u) ∨
      (∃ k u, ex (s.setPc (s.pc + BitVec.ofNat 16 len)) = .fatal k u ∧ t = raiseFatal k s.pc op u) := by
  unfold instruction at h
  split at h
  · next d u e => exact Or.inl ⟨d, u, e, by injection h with h; exact h.symm⟩
  · next k u e => exact Or.inr ⟨k, u, e, by injection h with h; exact h.symm⟩

/-- An instruction always answers a next state. -/
theorem instruction_next (op : Byte) (base len adj : Nat) (ex : State → Eff Completion) (s : State) :
    ∃ t, instruction op base len adj ex s = .next t := by
  unfold instruction
  split <;> exact ⟨_, rfl⟩

/-! ### The shapes of the instructions -/

/-- The effects of the instructions that read an operand. -/
inductive ReadEffect : (Byte → State → State) → Prop
  | load (r : Reg) : ReadEffect (loadReg r)
  | adc : ReadEffect adcEffect
  | sbc : ReadEffect sbcEffect
  | and : ReadEffect andEffect
  | ora : ReadEffect oraEffect
  | eor : ReadEffect eorEffect
  | compare (r : Reg) : ReadEffect (compareEffect r)
  | bit : ReadEffect bitEffect

/-- The results of the read-modify-write instructions. -/
inductive ModifyEffect : (Byte → Byte → Byte × Byte) → Prop
  | asl : ModifyEffect aslResult
  | lsr : ModifyEffect lsrResult
  | rol : ModifyEffect rolResult
  | ror : ModifyEffect rorResult
  | inc : ModifyEffect incResult
  | dec : ModifyEffect decResult

/-- The bytes that stores, transfers, increments and pushes take from the state. -/
inductive ByteSource : (State → Byte) → Prop
  | a : ByteSource (fun s => s.a)
  | x : ByteSource (fun s => s.x)
  | y : ByteSource (fun s => s.y)
  | sp : ByteSource (fun s => s.sp)
  | php : ByteSource (fun s => phpByte s.cfg.phpB s.p)
  | const (v : Byte) : ByteSource (fun _ => v)
  | succ {v} (h : ByteSource v) : ByteSource (fun s => v s + 1)
  | pred {v} (h : ByteSource v) : ByteSource (fun s => v s - 1)

/-- The conditions of the branches. -/
inductive BranchCond : (State → Bool) → Prop
  | set (f : Flag) : BranchCond (fun s => s.flag f)
  | clear (f : Flag) : BranchCond (fun s => !s.flag f)
  | always : BranchCond (fun _ => true)

/-- The effects of the implied instructions that cannot fail. -/
inductive ImpliedEffect : (State → State) → Prop
  | load (r : Reg) {v} (h : ByteSource v) : ImpliedEffect (fun s => loadReg r (v s) s)
  | txs : ImpliedEffect (fun s => s.setSp s.x)
  | flag (f : Flag) (on : Bool) (h : f ≠ .u) : ImpliedEffect (fun s => s.setFlag f on)
  | nop : ImpliedEffect (fun s => s)

/-- The rules of the stack instructions. -/
inductive StackEffect : (Word → State → Eff Unit) → Prop
  | push {v} (h : ByteSource v) : StackEffect (fun pc0 s => push pc0 (v s) s)
  | pull (r : Reg) : StackEffect (fun _ => pullReg r)
  | pullStatus : StackEffect (fun _ => pullStatus)
  | rti : StackEffect (fun _ => pullStatusAndPc)

/-- The opcode byte of an instruction (30_encoding.md R95). -/
def opcodeOf (i : Instr) : Byte := (encode i).headD 0x00

/-- The encoding of an instruction begins with its opcode byte. -/
theorem encode_head (i : Instr) : (encode i).head? = some (opcodeOf i) := by cases i <;> rfl

/-- Every form the answer of the instruction with opcode byte `op` can take: the inversion of `exec`. -/
inductive Shape (s : State) : Byte → Result → Prop
  | read (op : Byte) (base : Nat) (o : Source) {f} (h : ReadEffect f) (hb : 2 ≤ base ∧ base ≤ 7 := by decide) :
    Shape s op (readInstr op base o f s)
  | store (op : Byte) (base : Nat) (m : AddrForm) {v} (h : ByteSource v) (hb : 2 ≤ base ∧ base ≤ 7 := by decide) :
    Shape s op (storeInstr op base m v s)
  | modify (op : Byte) (base : Nat) (o : Target) {f} (h : ModifyEffect f) (hb : 2 ≤ base ∧ base ≤ 7 := by decide) :
    Shape s op (modifyInstr op base o f s)
  | implied (op : Byte) (base : Nat) {f} (h : ImpliedEffect f) (hb : 2 ≤ base ∧ base ≤ 7 := by decide) :
    Shape s op (impliedInstr op base f s)
  | stack (op : Byte) (base : Nat) {f} (h : StackEffect f) (hb : 2 ≤ base ∧ base ≤ 7 := by decide) :
    Shape s op (stackInstr op base f s)
  | branch (op : Byte) (r : Byte) {c} (h : BranchCond c) : Shape s op (branchInstr op 2 c r s)
  | jump (op : Byte) (base : Nat) (m : AddrForm) (hb : 2 ≤ base ∧ base ≤ 7 := by decide) :
    Shape s op (jumpInstr op base m s)
  | jsr (target : Word) : Shape s 0x20 (execJsr target s)
  | rts : Shape s 0x60 (execRts s)
  | brk : Shape s 0x00 (execBrk s)

/-- Every instruction has one of the ten shapes. -/
theorem exec_shape (i : Instr) (s : State) : Shape s (opcodeOf i) (exec i s) := by
  cases i with
  | ldaImmediate v => exact .read 0xA9 2 (.imm v) (.load .a)
  | ldaZeroPage z => exact .read 0xA5 3 (.mem (.zeroPage z)) (.load .a)
  | ldaZeroPageX z => exact .read 0xB5 4 (.mem (.zeroPageX z)) (.load .a)
  | ldaAbsolute a => exact .read 0xAD 4 (.mem (.absolute a)) (.load .a)
  | ldaAbsoluteX a => exact .read 0xBD 4 (.mem (.absoluteX a)) (.load .a)
  | ldaAbsoluteY a => exact .read 0xB9 4 (.mem (.absoluteY a)) (.load .a)
  | ldaIndexedIndirectX z => exact .read 0xA1 6 (.mem (.indexedIndirectX z)) (.load .a)
  | ldaIndirectIndexedY z => exact .read 0xB1 5 (.mem (.indirectIndexedY z)) (.load .a)
  | ldaZeroPageIndirect z => exact .read 0xB2 5 (.mem (.zeroPageIndirect z)) (.load .a)
  | ldxImmediate v => exact .read 0xA2 2 (.imm v) (.load .x)
  | ldxZeroPage z => exact .read 0xA6 3 (.mem (.zeroPage z)) (.load .x)
  | ldxZeroPageY z => exact .read 0xB6 4 (.mem (.zeroPageY z)) (.load .x)
  | ldxAbsolute a => exact .read 0xAE 4 (.mem (.absolute a)) (.load .x)
  | ldxAbsoluteY a => exact .read 0xBE 4 (.mem (.absoluteY a)) (.load .x)
  | ldyImmediate v => exact .read 0xA0 2 (.imm v) (.load .y)
  | ldyZeroPage z => exact .read 0xA4 3 (.mem (.zeroPage z)) (.load .y)
  | ldyZeroPageX z => exact .read 0xB4 4 (.mem (.zeroPageX z)) (.load .y)
  | ldyAbsolute a => exact .read 0xAC 4 (.mem (.absolute a)) (.load .y)
  | ldyAbsoluteX a => exact .read 0xBC 4 (.mem (.absoluteX a)) (.load .y)
  | staZeroPage z => exact .store 0x85 3 (.zeroPage z) .a
  | staZeroPageX z => exact .store 0x95 4 (.zeroPageX z) .a
  | staAbsolute a => exact .store 0x8D 4 (.absolute a) .a
  | staAbsoluteX a => exact .store 0x9D 5 (.absoluteX a) .a
  | staAbsoluteY a => exact .store 0x99 5 (.absoluteY a) .a
  | staIndexedIndirectX z => exact .store 0x81 6 (.indexedIndirectX z) .a
  | staIndirectIndexedY z => exact .store 0x91 6 (.indirectIndexedY z) .a
  | staZeroPageIndirect z => exact .store 0x92 5 (.zeroPageIndirect z) .a
  | stxZeroPage z => exact .store 0x86 3 (.zeroPage z) .x
  | stxZeroPageY z => exact .store 0x96 4 (.zeroPageY z) .x
  | stxAbsolute a => exact .store 0x8E 4 (.absolute a) .x
  | styZeroPage z => exact .store 0x84 3 (.zeroPage z) .y
  | styZeroPageX z => exact .store 0x94 4 (.zeroPageX z) .y
  | styAbsolute a => exact .store 0x8C 4 (.absolute a) .y
  | stzZeroPage z => exact .store 0x64 3 (.zeroPage z) (.const 0x00)
  | stzZeroPageX z => exact .store 0x74 4 (.zeroPageX z) (.const 0x00)
  | stzAbsolute a => exact .store 0x9C 4 (.absolute a) (.const 0x00)
  | stzAbsoluteX a => exact .store 0x9E 5 (.absoluteX a) (.const 0x00)
  | tax => exact .implied 0xAA 2 (f := fun s1 => loadReg .x (s1.a) s1) (.load .x .a)
  | tay => exact .implied 0xA8 2 (f := fun s1 => loadReg .y (s1.a) s1) (.load .y .a)
  | txa => exact .implied 0x8A 2 (f := fun s1 => loadReg .a (s1.x) s1) (.load .a .x)
  | tya => exact .implied 0x98 2 (f := fun s1 => loadReg .a (s1.y) s1) (.load .a .y)
  | tsx => exact .implied 0xBA 2 (f := fun s1 => loadReg .x (s1.sp) s1) (.load .x .sp)
  | txs => exact .implied 0x9A 2 .txs
  | adcImmediate v => exact .read 0x69 2 (.imm v) .adc
  | adcZeroPage z => exact .read 0x65 3 (.mem (.zeroPage z)) .adc
  | adcZeroPageX z => exact .read 0x75 4 (.mem (.zeroPageX z)) .adc
  | adcAbsolute a => exact .read 0x6D 4 (.mem (.absolute a)) .adc
  | adcAbsoluteX a => exact .read 0x7D 4 (.mem (.absoluteX a)) .adc
  | adcAbsoluteY a => exact .read 0x79 4 (.mem (.absoluteY a)) .adc
  | adcIndexedIndirectX z => exact .read 0x61 6 (.mem (.indexedIndirectX z)) .adc
  | adcIndirectIndexedY z => exact .read 0x71 5 (.mem (.indirectIndexedY z)) .adc
  | adcZeroPageIndirect z => exact .read 0x72 5 (.mem (.zeroPageIndirect z)) .adc
  | sbcImmediate v => exact .read 0xE9 2 (.imm v) .sbc
  | sbcZeroPage z => exact .read 0xE5 3 (.mem (.zeroPage z)) .sbc
  | sbcZeroPageX z => exact .read 0xF5 4 (.mem (.zeroPageX z)) .sbc
  | sbcAbsolute a => exact .read 0xED 4 (.mem (.absolute a)) .sbc
  | sbcAbsoluteX a => exact .read 0xFD 4 (.mem (.absoluteX a)) .sbc
  | sbcAbsoluteY a => exact .read 0xF9 4 (.mem (.absoluteY a)) .sbc
  | sbcIndexedIndirectX z => exact .read 0xE1 6 (.mem (.indexedIndirectX z)) .sbc
  | sbcIndirectIndexedY z => exact .read 0xF1 5 (.mem (.indirectIndexedY z)) .sbc
  | sbcZeroPageIndirect z => exact .read 0xF2 5 (.mem (.zeroPageIndirect z)) .sbc
  | andImmediate v => exact .read 0x29 2 (.imm v) .and
  | andZeroPage z => exact .read 0x25 3 (.mem (.zeroPage z)) .and
  | andZeroPageX z => exact .read 0x35 4 (.mem (.zeroPageX z)) .and
  | andAbsolute a => exact .read 0x2D 4 (.mem (.absolute a)) .and
  | andAbsoluteX a => exact .read 0x3D 4 (.mem (.absoluteX a)) .and
  | andAbsoluteY a => exact .read 0x39 4 (.mem (.absoluteY a)) .and
  | andIndexedIndirectX z => exact .read 0x21 6 (.mem (.indexedIndirectX z)) .and
  | andIndirectIndexedY z => exact .read 0x31 5 (.mem (.indirectIndexedY z)) .and
  | andZeroPageIndirect z => exact .read 0x32 5 (.mem (.zeroPageIndirect z)) .and
  | oraImmediate v => exact .read 0x09 2 (.imm v) .ora
  | oraZeroPage z => exact .read 0x05 3 (.mem (.zeroPage z)) .ora
  | oraZeroPageX z => exact .read 0x15 4 (.mem (.zeroPageX z)) .ora
  | oraAbsolute a => exact .read 0x0D 4 (.mem (.absolute a)) .ora
  | oraAbsoluteX a => exact .read 0x1D 4 (.mem (.absoluteX a)) .ora
  | oraAbsoluteY a => exact .read 0x19 4 (.mem (.absoluteY a)) .ora
  | oraIndexedIndirectX z => exact .read 0x01 6 (.mem (.indexedIndirectX z)) .ora
  | oraIndirectIndexedY z => exact .read 0x11 5 (.mem (.indirectIndexedY z)) .ora
  | oraZeroPageIndirect z => exact .read 0x12 5 (.mem (.zeroPageIndirect z)) .ora
  | eorImmediate v => exact .read 0x49 2 (.imm v) .eor
  | eorZeroPage z => exact .read 0x45 3 (.mem (.zeroPage z)) .eor
  | eorZeroPageX z => exact .read 0x55 4 (.mem (.zeroPageX z)) .eor
  | eorAbsolute a => exact .read 0x4D 4 (.mem (.absolute a)) .eor
  | eorAbsoluteX a => exact .read 0x5D 4 (.mem (.absoluteX a)) .eor
  | eorAbsoluteY a => exact .read 0x59 4 (.mem (.absoluteY a)) .eor
  | eorIndexedIndirectX z => exact .read 0x41 6 (.mem (.indexedIndirectX z)) .eor
  | eorIndirectIndexedY z => exact .read 0x51 5 (.mem (.indirectIndexedY z)) .eor
  | eorZeroPageIndirect z => exact .read 0x52 5 (.mem (.zeroPageIndirect z)) .eor
  | cmpImmediate v => exact .read 0xC9 2 (.imm v) (.compare .a)
  | cmpZeroPage z => exact .read 0xC5 3 (.mem (.zeroPage z)) (.compare .a)
  | cmpZeroPageX z => exact .read 0xD5 4 (.mem (.zeroPageX z)) (.compare .a)
  | cmpAbsolute a => exact .read 0xCD 4 (.mem (.absolute a)) (.compare .a)
  | cmpAbsoluteX a => exact .read 0xDD 4 (.mem (.absoluteX a)) (.compare .a)
  | cmpAbsoluteY a => exact .read 0xD9 4 (.mem (.absoluteY a)) (.compare .a)
  | cmpIndexedIndirectX z => exact .read 0xC1 6 (.mem (.indexedIndirectX z)) (.compare .a)
  | cmpIndirectIndexedY z => exact .read 0xD1 5 (.mem (.indirectIndexedY z)) (.compare .a)
  | cmpZeroPageIndirect z => exact .read 0xD2 5 (.mem (.zeroPageIndirect z)) (.compare .a)
  | cpxImmediate v => exact .read 0xE0 2 (.imm v) (.compare .x)
  | cpxZeroPage z => exact .read 0xE4 3 (.mem (.zeroPage z)) (.compare .x)
  | cpxAbsolute a => exact .read 0xEC 4 (.mem (.absolute a)) (.compare .x)
  | cpyImmediate v => exact .read 0xC0 2 (.imm v) (.compare .y)
  | cpyZeroPage z => exact .read 0xC4 3 (.mem (.zeroPage z)) (.compare .y)
  | cpyAbsolute a => exact .read 0xCC 4 (.mem (.absolute a)) (.compare .y)
  | bitZeroPage z => exact .read 0x24 3 (.mem (.zeroPage z)) .bit
  | bitAbsolute a => exact .read 0x2C 4 (.mem (.absolute a)) .bit
  | aslAccumulator => exact .modify 0x0A 2 .acc .asl
  | aslZeroPage z => exact .modify 0x06 5 (.mem (.zeroPage z)) .asl
  | aslZeroPageX z => exact .modify 0x16 6 (.mem (.zeroPageX z)) .asl
  | aslAbsolute a => exact .modify 0x0E 6 (.mem (.absolute a)) .asl
  | aslAbsoluteX a => exact .modify 0x1E 7 (.mem (.absoluteX a)) .asl
  | lsrAccumulator => exact .modify 0x4A 2 .acc .lsr
  | lsrZeroPage z => exact .modify 0x46 5 (.mem (.zeroPage z)) .lsr
  | lsrZeroPageX z => exact .modify 0x56 6 (.mem (.zeroPageX z)) .lsr
  | lsrAbsolute a => exact .modify 0x4E 6 (.mem (.absolute a)) .lsr
  | lsrAbsoluteX a => exact .modify 0x5E 7 (.mem (.absoluteX a)) .lsr
  | rolAccumulator => exact .modify 0x2A 2 .acc .rol
  | rolZeroPage z => exact .modify 0x26 5 (.mem (.zeroPage z)) .rol
  | rolZeroPageX z => exact .modify 0x36 6 (.mem (.zeroPageX z)) .rol
  | rolAbsolute a => exact .modify 0x2E 6 (.mem (.absolute a)) .rol
  | rolAbsoluteX a => exact .modify 0x3E 7 (.mem (.absoluteX a)) .rol
  | rorAccumulator => exact .modify 0x6A 2 .acc .ror
  | rorZeroPage z => exact .modify 0x66 5 (.mem (.zeroPage z)) .ror
  | rorZeroPageX z => exact .modify 0x76 6 (.mem (.zeroPageX z)) .ror
  | rorAbsolute a => exact .modify 0x6E 6 (.mem (.absolute a)) .ror
  | rorAbsoluteX a => exact .modify 0x7E 7 (.mem (.absoluteX a)) .ror
  | incZeroPage z => exact .modify 0xE6 5 (.mem (.zeroPage z)) .inc
  | incZeroPageX z => exact .modify 0xF6 6 (.mem (.zeroPageX z)) .inc
  | incAbsolute a => exact .modify 0xEE 6 (.mem (.absolute a)) .inc
  | incAbsoluteX a => exact .modify 0xFE 7 (.mem (.absoluteX a)) .inc
  | decZeroPage z => exact .modify 0xC6 5 (.mem (.zeroPage z)) .dec
  | decZeroPageX z => exact .modify 0xD6 6 (.mem (.zeroPageX z)) .dec
  | decAbsolute a => exact .modify 0xCE 6 (.mem (.absolute a)) .dec
  | decAbsoluteX a => exact .modify 0xDE 7 (.mem (.absoluteX a)) .dec
  | inx => exact .implied 0xE8 2 (f := fun s1 => loadReg .x (s1.x + 1) s1) (.load .x (.succ .x))
  | iny => exact .implied 0xC8 2 (f := fun s1 => loadReg .y (s1.y + 1) s1) (.load .y (.succ .y))
  | dex => exact .implied 0xCA 2 (f := fun s1 => loadReg .x (s1.x - 1) s1) (.load .x (.pred .x))
  | dey => exact .implied 0x88 2 (f := fun s1 => loadReg .y (s1.y - 1) s1) (.load .y (.pred .y))
  | ina => exact .implied 0x1A 2 (f := fun s1 => loadReg .a (s1.a + 1) s1) (.load .a (.succ .a))
  | dea => exact .implied 0x3A 2 (f := fun s1 => loadReg .a (s1.a - 1) s1) (.load .a (.pred .a))
  | bcc r => exact .branch 0x90 r (.clear .c)
  | bcs r => exact .branch 0xB0 r (.set .c)
  | beq r => exact .branch 0xF0 r (.set .z)
  | bmi r => exact .branch 0x30 r (.set .n)
  | bne r => exact .branch 0xD0 r (.clear .z)
  | bpl r => exact .branch 0x10 r (.clear .n)
  | bvc r => exact .branch 0x50 r (.clear .v)
  | bvs r => exact .branch 0x70 r (.set .v)
  | bra r => exact .branch 0x80 r .always
  | jmpAbsolute a => exact .jump 0x4C 3 (.absolute a)
  | jmpIndirect p => exact .jump 0x6C 5 (.indirect p)
  | jsr a => exact .jsr a
  | rts => exact .rts
  | rti => exact .stack 0x40 6 .rti
  | brk => exact .brk
  | pha => exact .stack 0x48 3 (.push .a)
  | php => exact .stack 0x08 3 (.push .php)
  | phx => exact .stack 0xDA 3 (.push .x)
  | phy => exact .stack 0x5A 3 (.push .y)
  | pla => exact .stack 0x68 4 (.pull .a)
  | plp => exact .stack 0x28 4 .pullStatus
  | plx => exact .stack 0xFA 4 (.pull .x)
  | ply => exact .stack 0x7A 4 (.pull .y)
  | clc => exact .implied 0x18 2 (.flag .c false (by decide))
  | sec => exact .implied 0x38 2 (.flag .c true (by decide))
  | cli => exact .implied 0x58 2 (.flag .i false (by decide))
  | sei => exact .implied 0x78 2 (.flag .i true (by decide))
  | cld => exact .implied 0xD8 2 (.flag .d false (by decide))
  | sed => exact .implied 0xF8 2 (.flag .d true (by decide))
  | clv => exact .implied 0xB8 2 (.flag .v false (by decide))
  | nop => exact .implied 0xEA 2 .nop

end Sys2Proof.Machine
end

