-- ==== Sys2Proof/Laws/PerInstr.lean ====
section
/-! SUPPORT. Facts about every instruction as syntax, one lemma per constructor. -/

namespace Sys2Proof.Laws.EncodedForm

/-- The bytes of an instruction: one opcode byte and as many operand bytes as its mode has (30_encoding.md R90), the opcode
byte's row in the opcode map has the instruction's mode (R94), and that row's constructor gives instructions of that
mode whatever the operand bytes. -/
def Statement (i : Instr) : Prop :=
  (encode i).length = 1 + operandLength i.mode ∧
    ∃ op r, (encode i).head? = some op ∧ findRow op = some r ∧ r.mode = i.mode ∧
      ∀ lo hi, (r.make lo hi).mode = i.mode

theorem ldaImmediate (v : Byte) : Statement (.ldaImmediate v) := ⟨rfl, _, _, rfl, rfl, rfl, fun _ _ => rfl⟩
theorem ldaZeroPage (z : Byte) : Statement (.ldaZeroPage z) := ⟨rfl, _, _, rfl, rfl, rfl, fun _ _ => rfl⟩
theorem ldaZeroPageX (z : Byte) : Statement (.ldaZeroPageX z) := ⟨rfl, _, _, rfl, rfl, rfl, fun _ _ => rfl⟩
theorem ldaAbsolute (a : Word) : Statement (.ldaAbsolute a) := ⟨rfl, _, _, rfl, rfl, rfl, fun _ _ => rfl⟩
theorem ldaAbsoluteX (a : Word) : Statement (.ldaAbsoluteX a) := ⟨rfl, _, _, rfl, rfl, rfl, fun _ _ => rfl⟩
theorem ldaAbsoluteY (a : Word) : Statement (.ldaAbsoluteY a) := ⟨rfl, _, _, rfl, rfl, rfl, fun _ _ => rfl⟩
theorem ldaIndexedIndirectX (z : Byte) : Statement (.ldaIndexedIndirectX z) := ⟨rfl, _, _, rfl, rfl, rfl, fun _ _ => rfl⟩
theorem ldaIndirectIndexedY (z : Byte) : Statement (.ldaIndirectIndexedY z) := ⟨rfl, _, _, rfl, rfl, rfl, fun _ _ => rfl⟩
theorem ldaZeroPageIndirect (z : Byte) : Statement (.ldaZeroPageIndirect z) := ⟨rfl, _, _, rfl, rfl, rfl, fun _ _ => rfl⟩
theorem ldxImmediate (v : Byte) : Statement (.ldxImmediate v) := ⟨rfl, _, _, rfl, rfl, rfl, fun _ _ => rfl⟩
theorem ldxZeroPage (z : Byte) : Statement (.ldxZeroPage z) := ⟨rfl, _, _, rfl, rfl, rfl, fun _ _ => rfl⟩
theorem ldxZeroPageY (z : Byte) : Statement (.ldxZeroPageY z) := ⟨rfl, _, _, rfl, rfl, rfl, fun _ _ => rfl⟩
theorem ldxAbsolute (a : Word) : Statement (.ldxAbsolute a) := ⟨rfl, _, _, rfl, rfl, rfl, fun _ _ => rfl⟩
theorem ldxAbsoluteY (a : Word) : Statement (.ldxAbsoluteY a) := ⟨rfl, _, _, rfl, rfl, rfl, fun _ _ => rfl⟩
theorem ldyImmediate (v : Byte) : Statement (.ldyImmediate v) := ⟨rfl, _, _, rfl, rfl, rfl, fun _ _ => rfl⟩
theorem ldyZeroPage (z : Byte) : Statement (.ldyZeroPage z) := ⟨rfl, _, _, rfl, rfl, rfl, fun _ _ => rfl⟩
theorem ldyZeroPageX (z : Byte) : Statement (.ldyZeroPageX z) := ⟨rfl, _, _, rfl, rfl, rfl, fun _ _ => rfl⟩
theorem ldyAbsolute (a : Word) : Statement (.ldyAbsolute a) := ⟨rfl, _, _, rfl, rfl, rfl, fun _ _ => rfl⟩
theorem ldyAbsoluteX (a : Word) : Statement (.ldyAbsoluteX a) := ⟨rfl, _, _, rfl, rfl, rfl, fun _ _ => rfl⟩
theorem staZeroPage (z : Byte) : Statement (.staZeroPage z) := ⟨rfl, _, _, rfl, rfl, rfl, fun _ _ => rfl⟩
theorem staZeroPageX (z : Byte) : Statement (.staZeroPageX z) := ⟨rfl, _, _, rfl, rfl, rfl, fun _ _ => rfl⟩
theorem staAbsolute (a : Word) : Statement (.staAbsolute a) := ⟨rfl, _, _, rfl, rfl, rfl, fun _ _ => rfl⟩
theorem staAbsoluteX (a : Word) : Statement (.staAbsoluteX a) := ⟨rfl, _, _, rfl, rfl, rfl, fun _ _ => rfl⟩
theorem staAbsoluteY (a : Word) : Statement (.staAbsoluteY a) := ⟨rfl, _, _, rfl, rfl, rfl, fun _ _ => rfl⟩
theorem staIndexedIndirectX (z : Byte) : Statement (.staIndexedIndirectX z) := ⟨rfl, _, _, rfl, rfl, rfl, fun _ _ => rfl⟩
theorem staIndirectIndexedY (z : Byte) : Statement (.staIndirectIndexedY z) := ⟨rfl, _, _, rfl, rfl, rfl, fun _ _ => rfl⟩
theorem staZeroPageIndirect (z : Byte) : Statement (.staZeroPageIndirect z) := ⟨rfl, _, _, rfl, rfl, rfl, fun _ _ => rfl⟩
theorem stxZeroPage (z : Byte) : Statement (.stxZeroPage z) := ⟨rfl, _, _, rfl, rfl, rfl, fun _ _ => rfl⟩
theorem stxZeroPageY (z : Byte) : Statement (.stxZeroPageY z) := ⟨rfl, _, _, rfl, rfl, rfl, fun _ _ => rfl⟩
theorem stxAbsolute (a : Word) : Statement (.stxAbsolute a) := ⟨rfl, _, _, rfl, rfl, rfl, fun _ _ => rfl⟩
theorem styZeroPage (z : Byte) : Statement (.styZeroPage z) := ⟨rfl, _, _, rfl, rfl, rfl, fun _ _ => rfl⟩
theorem styZeroPageX (z : Byte) : Statement (.styZeroPageX z) := ⟨rfl, _, _, rfl, rfl, rfl, fun _ _ => rfl⟩
theorem styAbsolute (a : Word) : Statement (.styAbsolute a) := ⟨rfl, _, _, rfl, rfl, rfl, fun _ _ => rfl⟩
theorem stzZeroPage (z : Byte) : Statement (.stzZeroPage z) := ⟨rfl, _, _, rfl, rfl, rfl, fun _ _ => rfl⟩
theorem stzZeroPageX (z : Byte) : Statement (.stzZeroPageX z) := ⟨rfl, _, _, rfl, rfl, rfl, fun _ _ => rfl⟩
theorem stzAbsolute (a : Word) : Statement (.stzAbsolute a) := ⟨rfl, _, _, rfl, rfl, rfl, fun _ _ => rfl⟩
theorem stzAbsoluteX (a : Word) : Statement (.stzAbsoluteX a) := ⟨rfl, _, _, rfl, rfl, rfl, fun _ _ => rfl⟩
theorem tax : Statement .tax := ⟨rfl, _, _, rfl, rfl, rfl, fun _ _ => rfl⟩
theorem tay : Statement .tay := ⟨rfl, _, _, rfl, rfl, rfl, fun _ _ => rfl⟩
theorem txa : Statement .txa := ⟨rfl, _, _, rfl, rfl, rfl, fun _ _ => rfl⟩
theorem tya : Statement .tya := ⟨rfl, _, _, rfl, rfl, rfl, fun _ _ => rfl⟩
theorem tsx : Statement .tsx := ⟨rfl, _, _, rfl, rfl, rfl, fun _ _ => rfl⟩
theorem txs : Statement .txs := ⟨rfl, _, _, rfl, rfl, rfl, fun _ _ => rfl⟩
theorem adcImmediate (v : Byte) : Statement (.adcImmediate v) := ⟨rfl, _, _, rfl, rfl, rfl, fun _ _ => rfl⟩
theorem adcZeroPage (z : Byte) : Statement (.adcZeroPage z) := ⟨rfl, _, _, rfl, rfl, rfl, fun _ _ => rfl⟩
theorem adcZeroPageX (z : Byte) : Statement (.adcZeroPageX z) := ⟨rfl, _, _, rfl, rfl, rfl, fun _ _ => rfl⟩
theorem adcAbsolute (a : Word) : Statement (.adcAbsolute a) := ⟨rfl, _, _, rfl, rfl, rfl, fun _ _ => rfl⟩
theorem adcAbsoluteX (a : Word) : Statement (.adcAbsoluteX a) := ⟨rfl, _, _, rfl, rfl, rfl, fun _ _ => rfl⟩
theorem adcAbsoluteY (a : Word) : Statement (.adcAbsoluteY a) := ⟨rfl, _, _, rfl, rfl, rfl, fun _ _ => rfl⟩
theorem adcIndexedIndirectX (z : Byte) : Statement (.adcIndexedIndirectX z) := ⟨rfl, _, _, rfl, rfl, rfl, fun _ _ => rfl⟩
theorem adcIndirectIndexedY (z : Byte) : Statement (.adcIndirectIndexedY z) := ⟨rfl, _, _, rfl, rfl, rfl, fun _ _ => rfl⟩
theorem adcZeroPageIndirect (z : Byte) : Statement (.adcZeroPageIndirect z) := ⟨rfl, _, _, rfl, rfl, rfl, fun _ _ => rfl⟩
theorem sbcImmediate (v : Byte) : Statement (.sbcImmediate v) := ⟨rfl, _, _, rfl, rfl, rfl, fun _ _ => rfl⟩
theorem sbcZeroPage (z : Byte) : Statement (.sbcZeroPage z) := ⟨rfl, _, _, rfl, rfl, rfl, fun _ _ => rfl⟩
theorem sbcZeroPageX (z : Byte) : Statement (.sbcZeroPageX z) := ⟨rfl, _, _, rfl, rfl, rfl, fun _ _ => rfl⟩
theorem sbcAbsolute (a : Word) : Statement (.sbcAbsolute a) := ⟨rfl, _, _, rfl, rfl, rfl, fun _ _ => rfl⟩
theorem sbcAbsoluteX (a : Word) : Statement (.sbcAbsoluteX a) := ⟨rfl, _, _, rfl, rfl, rfl, fun _ _ => rfl⟩
theorem sbcAbsoluteY (a : Word) : Statement (.sbcAbsoluteY a) := ⟨rfl, _, _, rfl, rfl, rfl, fun _ _ => rfl⟩
theorem sbcIndexedIndirectX (z : Byte) : Statement (.sbcIndexedIndirectX z) := ⟨rfl, _, _, rfl, rfl, rfl, fun _ _ => rfl⟩
theorem sbcIndirectIndexedY (z : Byte) : Statement (.sbcIndirectIndexedY z) := ⟨rfl, _, _, rfl, rfl, rfl, fun _ _ => rfl⟩
theorem sbcZeroPageIndirect (z : Byte) : Statement (.sbcZeroPageIndirect z) := ⟨rfl, _, _, rfl, rfl, rfl, fun _ _ => rfl⟩
theorem andImmediate (v : Byte) : Statement (.andImmediate v) := ⟨rfl, _, _, rfl, rfl, rfl, fun _ _ => rfl⟩
theorem andZeroPage (z : Byte) : Statement (.andZeroPage z) := ⟨rfl, _, _, rfl, rfl, rfl, fun _ _ => rfl⟩
theorem andZeroPageX (z : Byte) : Statement (.andZeroPageX z) := ⟨rfl, _, _, rfl, rfl, rfl, fun _ _ => rfl⟩
theorem andAbsolute (a : Word) : Statement (.andAbsolute a) := ⟨rfl, _, _, rfl, rfl, rfl, fun _ _ => rfl⟩
theorem andAbsoluteX (a : Word) : Statement (.andAbsoluteX a) := ⟨rfl, _, _, rfl, rfl, rfl, fun _ _ => rfl⟩
theorem andAbsoluteY (a : Word) : Statement (.andAbsoluteY a) := ⟨rfl, _, _, rfl, rfl, rfl, fun _ _ => rfl⟩
theorem andIndexedIndirectX (z : Byte) : Statement (.andIndexedIndirectX z) := ⟨rfl, _, _, rfl, rfl, rfl, fun _ _ => rfl⟩
theorem andIndirectIndexedY (z : Byte) : Statement (.andIndirectIndexedY z) := ⟨rfl, _, _, rfl, rfl, rfl, fun _ _ => rfl⟩
theorem andZeroPageIndirect (z : Byte) : Statement (.andZeroPageIndirect z) := ⟨rfl, _, _, rfl, rfl, rfl, fun _ _ => rfl⟩
theorem oraImmediate (v : Byte) : Statement (.oraImmediate v) := ⟨rfl, _, _, rfl, rfl, rfl, fun _ _ => rfl⟩
theorem oraZeroPage (z : Byte) : Statement (.oraZeroPage z) := ⟨rfl, _, _, rfl, rfl, rfl, fun _ _ => rfl⟩
theorem oraZeroPageX (z : Byte) : Statement (.oraZeroPageX z) := ⟨rfl, _, _, rfl, rfl, rfl, fun _ _ => rfl⟩
theorem oraAbsolute (a : Word) : Statement (.oraAbsolute a) := ⟨rfl, _, _, rfl, rfl, rfl, fun _ _ => rfl⟩
theorem oraAbsoluteX (a : Word) : Statement (.oraAbsoluteX a) := ⟨rfl, _, _, rfl, rfl, rfl, fun _ _ => rfl⟩
theorem oraAbsoluteY (a : Word) : Statement (.oraAbsoluteY a) := ⟨rfl, _, _, rfl, rfl, rfl, fun _ _ => rfl⟩
theorem oraIndexedIndirectX (z : Byte) : Statement (.oraIndexedIndirectX z) := ⟨rfl, _, _, rfl, rfl, rfl, fun _ _ => rfl⟩
theorem oraIndirectIndexedY (z : Byte) : Statement (.oraIndirectIndexedY z) := ⟨rfl, _, _, rfl, rfl, rfl, fun _ _ => rfl⟩
theorem oraZeroPageIndirect (z : Byte) : Statement (.oraZeroPageIndirect z) := ⟨rfl, _, _, rfl, rfl, rfl, fun _ _ => rfl⟩
theorem eorImmediate (v : Byte) : Statement (.eorImmediate v) := ⟨rfl, _, _, rfl, rfl, rfl, fun _ _ => rfl⟩
theorem eorZeroPage (z : Byte) : Statement (.eorZeroPage z) := ⟨rfl, _, _, rfl, rfl, rfl, fun _ _ => rfl⟩
theorem eorZeroPageX (z : Byte) : Statement (.eorZeroPageX z) := ⟨rfl, _, _, rfl, rfl, rfl, fun _ _ => rfl⟩
theorem eorAbsolute (a : Word) : Statement (.eorAbsolute a) := ⟨rfl, _, _, rfl, rfl, rfl, fun _ _ => rfl⟩
theorem eorAbsoluteX (a : Word) : Statement (.eorAbsoluteX a) := ⟨rfl, _, _, rfl, rfl, rfl, fun _ _ => rfl⟩
theorem eorAbsoluteY (a : Word) : Statement (.eorAbsoluteY a) := ⟨rfl, _, _, rfl, rfl, rfl, fun _ _ => rfl⟩
theorem eorIndexedIndirectX (z : Byte) : Statement (.eorIndexedIndirectX z) := ⟨rfl, _, _, rfl, rfl, rfl, fun _ _ => rfl⟩
theorem eorIndirectIndexedY (z : Byte) : Statement (.eorIndirectIndexedY z) := ⟨rfl, _, _, rfl, rfl, rfl, fun _ _ => rfl⟩
theorem eorZeroPageIndirect (z : Byte) : Statement (.eorZeroPageIndirect z) := ⟨rfl, _, _, rfl, rfl, rfl, fun _ _ => rfl⟩
theorem cmpImmediate (v : Byte) : Statement (.cmpImmediate v) := ⟨rfl, _, _, rfl, rfl, rfl, fun _ _ => rfl⟩
theorem cmpZeroPage (z : Byte) : Statement (.cmpZeroPage z) := ⟨rfl, _, _, rfl, rfl, rfl, fun _ _ => rfl⟩
theorem cmpZeroPageX (z : Byte) : Statement (.cmpZeroPageX z) := ⟨rfl, _, _, rfl, rfl, rfl, fun _ _ => rfl⟩
theorem cmpAbsolute (a : Word) : Statement (.cmpAbsolute a) := ⟨rfl, _, _, rfl, rfl, rfl, fun _ _ => rfl⟩
theorem cmpAbsoluteX (a : Word) : Statement (.cmpAbsoluteX a) := ⟨rfl, _, _, rfl, rfl, rfl, fun _ _ => rfl⟩
theorem cmpAbsoluteY (a : Word) : Statement (.cmpAbsoluteY a) := ⟨rfl, _, _, rfl, rfl, rfl, fun _ _ => rfl⟩
theorem cmpIndexedIndirectX (z : Byte) : Statement (.cmpIndexedIndirectX z) := ⟨rfl, _, _, rfl, rfl, rfl, fun _ _ => rfl⟩
theorem cmpIndirectIndexedY (z : Byte) : Statement (.cmpIndirectIndexedY z) := ⟨rfl, _, _, rfl, rfl, rfl, fun _ _ => rfl⟩
theorem cmpZeroPageIndirect (z : Byte) : Statement (.cmpZeroPageIndirect z) := ⟨rfl, _, _, rfl, rfl, rfl, fun _ _ => rfl⟩
theorem cpxImmediate (v : Byte) : Statement (.cpxImmediate v) := ⟨rfl, _, _, rfl, rfl, rfl, fun _ _ => rfl⟩
theorem cpxZeroPage (z : Byte) : Statement (.cpxZeroPage z) := ⟨rfl, _, _, rfl, rfl, rfl, fun _ _ => rfl⟩
theorem cpxAbsolute (a : Word) : Statement (.cpxAbsolute a) := ⟨rfl, _, _, rfl, rfl, rfl, fun _ _ => rfl⟩
theorem cpyImmediate (v : Byte) : Statement (.cpyImmediate v) := ⟨rfl, _, _, rfl, rfl, rfl, fun _ _ => rfl⟩
theorem cpyZeroPage (z : Byte) : Statement (.cpyZeroPage z) := ⟨rfl, _, _, rfl, rfl, rfl, fun _ _ => rfl⟩
theorem cpyAbsolute (a : Word) : Statement (.cpyAbsolute a) := ⟨rfl, _, _, rfl, rfl, rfl, fun _ _ => rfl⟩
theorem bitZeroPage (z : Byte) : Statement (.bitZeroPage z) := ⟨rfl, _, _, rfl, rfl, rfl, fun _ _ => rfl⟩
theorem bitAbsolute (a : Word) : Statement (.bitAbsolute a) := ⟨rfl, _, _, rfl, rfl, rfl, fun _ _ => rfl⟩
theorem aslAccumulator : Statement .aslAccumulator := ⟨rfl, _, _, rfl, rfl, rfl, fun _ _ => rfl⟩
theorem aslZeroPage (z : Byte) : Statement (.aslZeroPage z) := ⟨rfl, _, _, rfl, rfl, rfl, fun _ _ => rfl⟩
theorem aslZeroPageX (z : Byte) : Statement (.aslZeroPageX z) := ⟨rfl, _, _, rfl, rfl, rfl, fun _ _ => rfl⟩
theorem aslAbsolute (a : Word) : Statement (.aslAbsolute a) := ⟨rfl, _, _, rfl, rfl, rfl, fun _ _ => rfl⟩
theorem aslAbsoluteX (a : Word) : Statement (.aslAbsoluteX a) := ⟨rfl, _, _, rfl, rfl, rfl, fun _ _ => rfl⟩
theorem lsrAccumulator : Statement .lsrAccumulator := ⟨rfl, _, _, rfl, rfl, rfl, fun _ _ => rfl⟩
theorem lsrZeroPage (z : Byte) : Statement (.lsrZeroPage z) := ⟨rfl, _, _, rfl, rfl, rfl, fun _ _ => rfl⟩
theorem lsrZeroPageX (z : Byte) : Statement (.lsrZeroPageX z) := ⟨rfl, _, _, rfl, rfl, rfl, fun _ _ => rfl⟩
theorem lsrAbsolute (a : Word) : Statement (.lsrAbsolute a) := ⟨rfl, _, _, rfl, rfl, rfl, fun _ _ => rfl⟩
theorem lsrAbsoluteX (a : Word) : Statement (.lsrAbsoluteX a) := ⟨rfl, _, _, rfl, rfl, rfl, fun _ _ => rfl⟩
theorem rolAccumulator : Statement .rolAccumulator := ⟨rfl, _, _, rfl, rfl, rfl, fun _ _ => rfl⟩
theorem rolZeroPage (z : Byte) : Statement (.rolZeroPage z) := ⟨rfl, _, _, rfl, rfl, rfl, fun _ _ => rfl⟩
theorem rolZeroPageX (z : Byte) : Statement (.rolZeroPageX z) := ⟨rfl, _, _, rfl, rfl, rfl, fun _ _ => rfl⟩
theorem rolAbsolute (a : Word) : Statement (.rolAbsolute a) := ⟨rfl, _, _, rfl, rfl, rfl, fun _ _ => rfl⟩
theorem rolAbsoluteX (a : Word) : Statement (.rolAbsoluteX a) := ⟨rfl, _, _, rfl, rfl, rfl, fun _ _ => rfl⟩
theorem rorAccumulator : Statement .rorAccumulator := ⟨rfl, _, _, rfl, rfl, rfl, fun _ _ => rfl⟩
theorem rorZeroPage (z : Byte) : Statement (.rorZeroPage z) := ⟨rfl, _, _, rfl, rfl, rfl, fun _ _ => rfl⟩
theorem rorZeroPageX (z : Byte) : Statement (.rorZeroPageX z) := ⟨rfl, _, _, rfl, rfl, rfl, fun _ _ => rfl⟩
theorem rorAbsolute (a : Word) : Statement (.rorAbsolute a) := ⟨rfl, _, _, rfl, rfl, rfl, fun _ _ => rfl⟩
theorem rorAbsoluteX (a : Word) : Statement (.rorAbsoluteX a) := ⟨rfl, _, _, rfl, rfl, rfl, fun _ _ => rfl⟩
theorem incZeroPage (z : Byte) : Statement (.incZeroPage z) := ⟨rfl, _, _, rfl, rfl, rfl, fun _ _ => rfl⟩
theorem incZeroPageX (z : Byte) : Statement (.incZeroPageX z) := ⟨rfl, _, _, rfl, rfl, rfl, fun _ _ => rfl⟩
theorem incAbsolute (a : Word) : Statement (.incAbsolute a) := ⟨rfl, _, _, rfl, rfl, rfl, fun _ _ => rfl⟩
theorem incAbsoluteX (a : Word) : Statement (.incAbsoluteX a) := ⟨rfl, _, _, rfl, rfl, rfl, fun _ _ => rfl⟩
theorem decZeroPage (z : Byte) : Statement (.decZeroPage z) := ⟨rfl, _, _, rfl, rfl, rfl, fun _ _ => rfl⟩
theorem decZeroPageX (z : Byte) : Statement (.decZeroPageX z) := ⟨rfl, _, _, rfl, rfl, rfl, fun _ _ => rfl⟩
theorem decAbsolute (a : Word) : Statement (.decAbsolute a) := ⟨rfl, _, _, rfl, rfl, rfl, fun _ _ => rfl⟩
theorem decAbsoluteX (a : Word) : Statement (.decAbsoluteX a) := ⟨rfl, _, _, rfl, rfl, rfl, fun _ _ => rfl⟩
theorem inx : Statement .inx := ⟨rfl, _, _, rfl, rfl, rfl, fun _ _ => rfl⟩
theorem iny : Statement .iny := ⟨rfl, _, _, rfl, rfl, rfl, fun _ _ => rfl⟩
theorem dex : Statement .dex := ⟨rfl, _, _, rfl, rfl, rfl, fun _ _ => rfl⟩
theorem dey : Statement .dey := ⟨rfl, _, _, rfl, rfl, rfl, fun _ _ => rfl⟩
theorem ina : Statement .ina := ⟨rfl, _, _, rfl, rfl, rfl, fun _ _ => rfl⟩
theorem dea : Statement .dea := ⟨rfl, _, _, rfl, rfl, rfl, fun _ _ => rfl⟩
theorem bcc (r : Byte) : Statement (.bcc r) := ⟨rfl, _, _, rfl, rfl, rfl, fun _ _ => rfl⟩
theorem bcs (r : Byte) : Statement (.bcs r) := ⟨rfl, _, _, rfl, rfl, rfl, fun _ _ => rfl⟩
theorem beq (r : Byte) : Statement (.beq r) := ⟨rfl, _, _, rfl, rfl, rfl, fun _ _ => rfl⟩
theorem bmi (r : Byte) : Statement (.bmi r) := ⟨rfl, _, _, rfl, rfl, rfl, fun _ _ => rfl⟩
theorem bne (r : Byte) : Statement (.bne r) := ⟨rfl, _, _, rfl, rfl, rfl, fun _ _ => rfl⟩
theorem bpl (r : Byte) : Statement (.bpl r) := ⟨rfl, _, _, rfl, rfl, rfl, fun _ _ => rfl⟩
theorem bvc (r : Byte) : Statement (.bvc r) := ⟨rfl, _, _, rfl, rfl, rfl, fun _ _ => rfl⟩
theorem bvs (r : Byte) : Statement (.bvs r) := ⟨rfl, _, _, rfl, rfl, rfl, fun _ _ => rfl⟩
theorem bra (r : Byte) : Statement (.bra r) := ⟨rfl, _, _, rfl, rfl, rfl, fun _ _ => rfl⟩
theorem jmpAbsolute (a : Word) : Statement (.jmpAbsolute a) := ⟨rfl, _, _, rfl, rfl, rfl, fun _ _ => rfl⟩
theorem jmpIndirect (p : Word) : Statement (.jmpIndirect p) := ⟨rfl, _, _, rfl, rfl, rfl, fun _ _ => rfl⟩
theorem jsr (a : Word) : Statement (.jsr a) := ⟨rfl, _, _, rfl, rfl, rfl, fun _ _ => rfl⟩
theorem rts : Statement .rts := ⟨rfl, _, _, rfl, rfl, rfl, fun _ _ => rfl⟩
theorem rti : Statement .rti := ⟨rfl, _, _, rfl, rfl, rfl, fun _ _ => rfl⟩
theorem brk : Statement .brk := ⟨rfl, _, _, rfl, rfl, rfl, fun _ _ => rfl⟩
theorem pha : Statement .pha := ⟨rfl, _, _, rfl, rfl, rfl, fun _ _ => rfl⟩
theorem php : Statement .php := ⟨rfl, _, _, rfl, rfl, rfl, fun _ _ => rfl⟩
theorem phx : Statement .phx := ⟨rfl, _, _, rfl, rfl, rfl, fun _ _ => rfl⟩
theorem phy : Statement .phy := ⟨rfl, _, _, rfl, rfl, rfl, fun _ _ => rfl⟩
theorem pla : Statement .pla := ⟨rfl, _, _, rfl, rfl, rfl, fun _ _ => rfl⟩
theorem plp : Statement .plp := ⟨rfl, _, _, rfl, rfl, rfl, fun _ _ => rfl⟩
theorem plx : Statement .plx := ⟨rfl, _, _, rfl, rfl, rfl, fun _ _ => rfl⟩
theorem ply : Statement .ply := ⟨rfl, _, _, rfl, rfl, rfl, fun _ _ => rfl⟩
theorem clc : Statement .clc := ⟨rfl, _, _, rfl, rfl, rfl, fun _ _ => rfl⟩
theorem sec : Statement .sec := ⟨rfl, _, _, rfl, rfl, rfl, fun _ _ => rfl⟩
theorem cli : Statement .cli := ⟨rfl, _, _, rfl, rfl, rfl, fun _ _ => rfl⟩
theorem sei : Statement .sei := ⟨rfl, _, _, rfl, rfl, rfl, fun _ _ => rfl⟩
theorem cld : Statement .cld := ⟨rfl, _, _, rfl, rfl, rfl, fun _ _ => rfl⟩
theorem sed : Statement .sed := ⟨rfl, _, _, rfl, rfl, rfl, fun _ _ => rfl⟩
theorem clv : Statement .clv := ⟨rfl, _, _, rfl, rfl, rfl, fun _ _ => rfl⟩
theorem nop : Statement .nop := ⟨rfl, _, _, rfl, rfl, rfl, fun _ _ => rfl⟩

end Sys2Proof.Laws.EncodedForm
end

