-- ==== Sys2Proof/Tests/Slice0.lean ====
section
/-! SUPPORT. Tests. Expected values come from spec/95_test_vectors.md (the vector's name stands in the docstring), from the
examples of the instruction rules, or from the encodings of spec/opcode_table.json, never from the model. -/

namespace Sys2Proof.Tests

open Sys2Proof.Machine

/-! ### Well-formedness -/

/-- R98: without ZPI_OPS the eight zero_page_indirect instructions are not of the machine. -/
theorem test_wellFormed_refuses_zeroPageIndirect :
    ([.oraZeroPageIndirect 1, .andZeroPageIndirect 1, .eorZeroPageIndirect 1, .adcZeroPageIndirect 1,
      .staZeroPageIndirect 1, .ldaZeroPageIndirect 1, .cmpZeroPageIndirect 1, .sbcZeroPageIndirect 1] : List Instr).all
      (fun i => !i.wellFormed false) = true := by decide

/-- R98: with ZPI_OPS they are, and without it every other instruction is. -/
theorem test_wellFormed_accepts :
    Instr.wellFormed true (.ldaZeroPageIndirect 1) = true ∧ Instr.wellFormed false (.ldaZeroPage 1) = true ∧
      Instr.wellFormed false (.jmpIndirect 1) = true ∧ Instr.wellFormed false .brk = true := by decide

/-! ### Decoding: words written out from the encodings of the opcode table, first byte first -/

/-- The bytes decode, with ZPI_OPS, to the instruction, with nothing left over. -/
def decodesTo (w : List Byte × Instr) : Bool := decide (decode true w.1 = .instr w.2 [])

theorem test_decode_loads :
    ([([0b10101001, 0b10010110], .ldaImmediate 0x96), 
      ([0b10100101, 0b10010110], .ldaZeroPage 0x96), 
      ([0b10110101, 0b10010110], .ldaZeroPageX 0x96), 
      ([0b10101101, 0b00110100, 0b10010010], .ldaAbsolute 0x9234), 
      ([0b10111101, 0b00110100, 0b10010010], .ldaAbsoluteX 0x9234), 
      ([0b10111001, 0b00110100, 0b10010010], .ldaAbsoluteY 0x9234), 
      ([0b10100001, 0b10010110], .ldaIndexedIndirectX 0x96), 
      ([0b10110001, 0b10010110], .ldaIndirectIndexedY 0x96), 
      ([0b10110010, 0b10010110], .ldaZeroPageIndirect 0x96), 
      ([0b10100010, 0b10010110], .ldxImmediate 0x96), 
      ([0b10100110, 0b10010110], .ldxZeroPage 0x96), 
      ([0b10110110, 0b10010110], .ldxZeroPageY 0x96), 
      ([0b10101110, 0b00110100, 0b10010010], .ldxAbsolute 0x9234), 
      ([0b10111110, 0b00110100, 0b10010010], .ldxAbsoluteY 0x9234), 
      ([0b10100000, 0b10010110], .ldyImmediate 0x96), 
      ([0b10100100, 0b10010110], .ldyZeroPage 0x96), 
      ([0b10110100, 0b10010110], .ldyZeroPageX 0x96), 
      ([0b10101100, 0b00110100, 0b10010010], .ldyAbsolute 0x9234), 
      ([0b10111100, 0b00110100, 0b10010010], .ldyAbsoluteX 0x9234)] : List (List Byte × Instr)).all decodesTo = true := by decide

theorem test_decode_stores :
    ([([0b10000101, 0b10010110], .staZeroPage 0x96), 
      ([0b10010101, 0b10010110], .staZeroPageX 0x96), 
      ([0b10001101, 0b00110100, 0b10010010], .staAbsolute 0x9234), 
      ([0b10011101, 0b00110100, 0b10010010], .staAbsoluteX 0x9234), 
      ([0b10011001, 0b00110100, 0b10010010], .staAbsoluteY 0x9234), 
      ([0b10000001, 0b10010110], .staIndexedIndirectX 0x96), 
      ([0b10010001, 0b10010110], .staIndirectIndexedY 0x96), 
      ([0b10010010, 0b10010110], .staZeroPageIndirect 0x96), 
      ([0b10000110, 0b10010110], .stxZeroPage 0x96), 
      ([0b10010110, 0b10010110], .stxZeroPageY 0x96), 
      ([0b10001110, 0b00110100, 0b10010010], .stxAbsolute 0x9234), 
      ([0b10000100, 0b10010110], .styZeroPage 0x96), 
      ([0b10010100, 0b10010110], .styZeroPageX 0x96), 
      ([0b10001100, 0b00110100, 0b10010010], .styAbsolute 0x9234), 
      ([0b01100100, 0b10010110], .stzZeroPage 0x96), 
      ([0b01110100, 0b10010110], .stzZeroPageX 0x96), 
      ([0b10011100, 0b00110100, 0b10010010], .stzAbsolute 0x9234), 
      ([0b10011110, 0b00110100, 0b10010010], .stzAbsoluteX 0x9234)] : List (List Byte × Instr)).all decodesTo = true := by decide

theorem test_decode_transfers :
    ([([0b10101010], .tax), 
      ([0b10101000], .tay), 
      ([0b10001010], .txa), 
      ([0b10011000], .tya), 
      ([0b10111010], .tsx), 
      ([0b10011010], .txs)] : List (List Byte × Instr)).all decodesTo = true := by decide

theorem test_decode_adc_sbc :
    ([([0b01101001, 0b10010110], .adcImmediate 0x96), 
      ([0b01100101, 0b10010110], .adcZeroPage 0x96), 
      ([0b01110101, 0b10010110], .adcZeroPageX 0x96), 
      ([0b01101101, 0b00110100, 0b10010010], .adcAbsolute 0x9234), 
      ([0b01111101, 0b00110100, 0b10010010], .adcAbsoluteX 0x9234), 
      ([0b01111001, 0b00110100, 0b10010010], .adcAbsoluteY 0x9234), 
      ([0b01100001, 0b10010110], .adcIndexedIndirectX 0x96), 
      ([0b01110001, 0b10010110], .adcIndirectIndexedY 0x96), 
      ([0b01110010, 0b10010110], .adcZeroPageIndirect 0x96), 
      ([0b11101001, 0b10010110], .sbcImmediate 0x96), 
      ([0b11100101, 0b10010110], .sbcZeroPage 0x96), 
      ([0b11110101, 0b10010110], .sbcZeroPageX 0x96), 
      ([0b11101101, 0b00110100, 0b10010010], .sbcAbsolute 0x9234), 
      ([0b11111101, 0b00110100, 0b10010010], .sbcAbsoluteX 0x9234), 
      ([0b11111001, 0b00110100, 0b10010010], .sbcAbsoluteY 0x9234), 
      ([0b11100001, 0b10010110], .sbcIndexedIndirectX 0x96), 
      ([0b11110001, 0b10010110], .sbcIndirectIndexedY 0x96), 
      ([0b11110010, 0b10010110], .sbcZeroPageIndirect 0x96)] : List (List Byte × Instr)).all decodesTo = true := by decide

theorem test_decode_and_ora :
    ([([0b00101001, 0b10010110], .andImmediate 0x96), 
      ([0b00100101, 0b10010110], .andZeroPage 0x96), 
      ([0b00110101, 0b10010110], .andZeroPageX 0x96), 
      ([0b00101101, 0b00110100, 0b10010010], .andAbsolute 0x9234), 
      ([0b00111101, 0b00110100, 0b10010010], .andAbsoluteX 0x9234), 
      ([0b00111001, 0b00110100, 0b10010010], .andAbsoluteY 0x9234), 
      ([0b00100001, 0b10010110], .andIndexedIndirectX 0x96), 
      ([0b00110001, 0b10010110], .andIndirectIndexedY 0x96), 
      ([0b00110010, 0b10010110], .andZeroPageIndirect 0x96), 
      ([0b00001001, 0b10010110], .oraImmediate 0x96), 
      ([0b00000101, 0b10010110], .oraZeroPage 0x96), 
      ([0b00010101, 0b10010110], .oraZeroPageX 0x96), 
      ([0b00001101, 0b00110100, 0b10010010], .oraAbsolute 0x9234), 
      ([0b00011101, 0b00110100, 0b10010010], .oraAbsoluteX 0x9234), 
      ([0b00011001, 0b00110100, 0b10010010], .oraAbsoluteY 0x9234), 
      ([0b00000001, 0b10010110], .oraIndexedIndirectX 0x96), 
      ([0b00010001, 0b10010110], .oraIndirectIndexedY 0x96), 
      ([0b00010010, 0b10010110], .oraZeroPageIndirect 0x96)] : List (List Byte × Instr)).all decodesTo = true := by decide

theorem test_decode_eor_cmp :
    ([([0b01001001, 0b10010110], .eorImmediate 0x96), 
      ([0b01000101, 0b10010110], .eorZeroPage 0x96), 
      ([0b01010101, 0b10010110], .eorZeroPageX 0x96), 
      ([0b01001101, 0b00110100, 0b10010010], .eorAbsolute 0x9234), 
      ([0b01011101, 0b00110100, 0b10010010], .eorAbsoluteX 0x9234), 
      ([0b01011001, 0b00110100, 0b10010010], .eorAbsoluteY 0x9234), 
      ([0b01000001, 0b10010110], .eorIndexedIndirectX 0x96), 
      ([0b01010001, 0b10010110], .eorIndirectIndexedY 0x96), 
      ([0b01010010, 0b10010110], .eorZeroPageIndirect 0x96), 
      ([0b11001001, 0b10010110], .cmpImmediate 0x96), 
      ([0b11000101, 0b10010110], .cmpZeroPage 0x96), 
      ([0b11010101, 0b10010110], .cmpZeroPageX 0x96), 
      ([0b11001101, 0b00110100, 0b10010010], .cmpAbsolute 0x9234), 
      ([0b11011101, 0b00110100, 0b10010010], .cmpAbsoluteX 0x9234), 
      ([0b11011001, 0b00110100, 0b10010010], .cmpAbsoluteY 0x9234), 
      ([0b11000001, 0b10010110], .cmpIndexedIndirectX 0x96), 
      ([0b11010001, 0b10010110], .cmpIndirectIndexedY 0x96), 
      ([0b11010010, 0b10010110], .cmpZeroPageIndirect 0x96)] : List (List Byte × Instr)).all decodesTo = true := by decide

theorem test_decode_cpx_cpy_bit :
    ([([0b11100000, 0b10010110], .cpxImmediate 0x96), 
      ([0b11100100, 0b10010110], .cpxZeroPage 0x96), 
      ([0b11101100, 0b00110100, 0b10010010], .cpxAbsolute 0x9234), 
      ([0b11000000, 0b10010110], .cpyImmediate 0x96), 
      ([0b11000100, 0b10010110], .cpyZeroPage 0x96), 
      ([0b11001100, 0b00110100, 0b10010010], .cpyAbsolute 0x9234), 
      ([0b00100100, 0b10010110], .bitZeroPage 0x96), 
      ([0b00101100, 0b00110100, 0b10010010], .bitAbsolute 0x9234)] : List (List Byte × Instr)).all decodesTo = true := by decide

theorem test_decode_asl_lsr :
    ([([0b00001010], .aslAccumulator), 
      ([0b00000110, 0b10010110], .aslZeroPage 0x96), 
      ([0b00010110, 0b10010110], .aslZeroPageX 0x96), 
      ([0b00001110, 0b00110100, 0b10010010], .aslAbsolute 0x9234), 
      ([0b00011110, 0b00110100, 0b10010010], .aslAbsoluteX 0x9234), 
      ([0b01001010], .lsrAccumulator), 
      ([0b01000110, 0b10010110], .lsrZeroPage 0x96), 
      ([0b01010110, 0b10010110], .lsrZeroPageX 0x96), 
      ([0b01001110, 0b00110100, 0b10010010], .lsrAbsolute 0x9234), 
      ([0b01011110, 0b00110100, 0b10010010], .lsrAbsoluteX 0x9234)] : List (List Byte × Instr)).all decodesTo = true := by decide

theorem test_decode_rol_ror :
    ([([0b00101010], .rolAccumulator), 
      ([0b00100110, 0b10010110], .rolZeroPage 0x96), 
      ([0b00110110, 0b10010110], .rolZeroPageX 0x96), 
      ([0b00101110, 0b00110100, 0b10010010], .rolAbsolute 0x9234), 
      ([0b00111110, 0b00110100, 0b10010010], .rolAbsoluteX 0x9234), 
      ([0b01101010], .rorAccumulator), 
      ([0b01100110, 0b10010110], .rorZeroPage 0x96), 
      ([0b01110110, 0b10010110], .rorZeroPageX 0x96), 
      ([0b01101110, 0b00110100, 0b10010010], .rorAbsolute 0x9234), 
      ([0b01111110, 0b00110100, 0b10010010], .rorAbsoluteX 0x9234)] : List (List Byte × Instr)).all decodesTo = true := by decide

theorem test_decode_inc_dec :
    ([([0b11100110, 0b10010110], .incZeroPage 0x96), 
      ([0b11110110, 0b10010110], .incZeroPageX 0x96), 
      ([0b11101110, 0b00110100, 0b10010010], .incAbsolute 0x9234), 
      ([0b11111110, 0b00110100, 0b10010010], .incAbsoluteX 0x9234), 
      ([0b11000110, 0b10010110], .decZeroPage 0x96), 
      ([0b11010110, 0b10010110], .decZeroPageX 0x96), 
      ([0b11001110, 0b00110100, 0b10010010], .decAbsolute 0x9234), 
      ([0b11011110, 0b00110100, 0b10010010], .decAbsoluteX 0x9234), 
      ([0b11101000], .inx), 
      ([0b11001000], .iny), 
      ([0b11001010], .dex), 
      ([0b10001000], .dey), 
      ([0b00011010], .ina), 
      ([0b00111010], .dea)] : List (List Byte × Instr)).all decodesTo = true := by decide

theorem test_decode_branches :
    ([([0b10010000, 0b10010110], .bcc 0x96), 
      ([0b10110000, 0b10010110], .bcs 0x96), 
      ([0b11110000, 0b10010110], .beq 0x96), 
      ([0b00110000, 0b10010110], .bmi 0x96), 
      ([0b11010000, 0b10010110], .bne 0x96), 
      ([0b00010000, 0b10010110], .bpl 0x96), 
      ([0b01010000, 0b10010110], .bvc 0x96), 
      ([0b01110000, 0b10010110], .bvs 0x96), 
      ([0b10000000, 0b10010110], .bra 0x96)] : List (List Byte × Instr)).all decodesTo = true := by decide

theorem test_decode_jumps :
    ([([0b01001100, 0b00110100, 0b10010010], .jmpAbsolute 0x9234), 
      ([0b01101100, 0b00110100, 0b10010010], .jmpIndirect 0x9234), 
      ([0b00100000, 0b00110100, 0b10010010], .jsr 0x9234), 
      ([0b01100000], .rts), 
      ([0b01000000], .rti), 
      ([0b00000000], .brk)] : List (List Byte × Instr)).all decodesTo = true := by decide

theorem test_decode_stack :
    ([([0b01001000], .pha), 
      ([0b00001000], .php), 
      ([0b11011010], .phx), 
      ([0b01011010], .phy), 
      ([0b01101000], .pla), 
      ([0b00101000], .plp), 
      ([0b11111010], .plx), 
      ([0b01111010], .ply)] : List (List Byte × Instr)).all decodesTo = true := by decide

theorem test_decode_flags :
    ([([0b00011000], .clc), 
      ([0b00111000], .sec), 
      ([0b01011000], .cli), 
      ([0b01111000], .sei), 
      ([0b11011000], .cld), 
      ([0b11111000], .sed), 
      ([0b10111000], .clv), 
      ([0b11101010], .nop)] : List (List Byte × Instr)).all decodesTo = true := by decide

/-- R97: each of the 86 bytes is rejected by name, before its operand bytes matter. -/
theorem test_decode_undefined :
    undefinedBytes.length = 86 ∧ undefinedBytes.all (fun b => decode true [b, 0x12, 0x34] = .undefinedOpcode b) = true := by
  decide

/-- R95, R96, R100: the map has 170 rows, their opcode bytes rise strictly (so no byte has two), and they stand where the
lookup finds them. -/
theorem test_opcode_map :
    rows.length = 170 ∧ (rows.map (fun r => r.opcode.toNat)).Pairwise (· < ·) ∧
      (rows.all fun r => (findRow r.opcode).isSome) = true := by
  decide +kernel

/-- R98, vector E3: with ZPI_OPS = false the eight bytes are undefined, and with true 0xB2 is LDA (zp). -/
theorem test_decode_zpi_off :
    (([0x12, 0x32, 0x52, 0x72, 0x92, 0xB2, 0xD2, 0xF2] : List Byte).all fun b =>
      decode false [b, 0x40] = .undefinedOpcode b) = true ∧
      decode true [0xB2, 0x40] = .instr (.ldaZeroPageIndirect 0x40) [] ∧
      decode true [0xA9] = .truncated := by decide

/-- The host's numbering: `A9 05` is the number 0x05A9, and `8D 34 12` the number 0x12348D. -/
theorem test_decodeTableWord :
    decodeTableWord 16 0x05A9 = some (.ldaImmediate 0x05) ∧ decodeTableWord 24 0x12348D = some (.staAbsolute 0x1234) ∧
      decodeTableWord 8 0x02 = none ∧ decodeTableWord 8 0xFFAD = some (.ldaAbsolute 0) := by decide

/-! ### One instruction -/

/-- The start state of the vectors of 95_test_vectors.md: at 0x0200, SP = 0xFF, P = 0x20. -/
def start : State := { State.reset with pc := 0x0200 }

/-- The state with one byte of memory set. -/
def poke (addr : Word) (v : Byte) (s : State) : State := { s with mem := cellPut s.mem addr.toNat v }

/-- The state after an instruction (the state itself where the instruction gives no next state). -/
def after (i : Instr) (s : State) : State :=
  match exec i s with
  | .next t => t
  | .fault _ | .refused _ => s

/-- The state after one step of the instruction with the given table word at PC. -/
def stepped (nbits w : Nat) (s : State) : State :=
  match step (s.withFetchWord nbits w) with
  | .next t => t
  | .fault _ | .refused _ => s

/-- The events of one instruction but for its log line. -/
def hooks (s : State) : List Event := s.port.dropLast

/-- L1, L2 -/
theorem test_lda :
    let t := after (.ldaImmediate 0x00) { start with a := 0x55 }
    let u := after (.ldaImmediate 0x80) start
    (t.a, t.p, t.pc, t.cyc) = (0x00, 0x22, 0x0202, 2) ∧ (u.a, u.p) = (0x80, 0xA0) := by decide

/-- L3 -/
theorem test_ldx :
    let t := after (.ldxZeroPageY 0xF0) (poke 0x0010 0x99 { start with y := 0x20 })
    (t.x, t.flag .n, t.cyc, t.pc) = (0x99, true, 4, 0x0202) := by decide

/-- R172 -/
theorem test_ldy : (after (.ldyImmediate 0x00) start).p = 0x22 := by decide

/-- L4 -/
theorem test_sta :
    let t := after (.staAbsoluteX 0x0FFF) { start with a := 0xAB, x := 0x01 }
    (memRead t 0x1000, t.p, t.cyc, t.pc) = (0xAB, 0x20, 6, 0x0203) ∧
      hooks t = [.write 0x1000 0x00 0xAB 0x0200 0] := by decide

/-- R174 -/
theorem test_stx :
    let t := after (.stxZeroPageY 0xFF) { start with x := 0x22, y := 0x01 }
    memRead t 0x0000 = 0x22 := by decide

/-- R175 -/
theorem test_sty : memRead (after (.styAbsolute 0x0400) { start with y := 0x07 }) 0x0400 = 0x07 := by decide

/-- L5; a cell that holds the unlisted value is not listed. -/
theorem test_stz :
    let t := after (.stzAbsolute 0x3000) (poke 0x3000 0x99 start)
    (memRead t 0x3000, t.mem, t.p, t.cyc) = (0x00, [], 0x20, 4) ∧ hooks t = [.write 0x3000 0x99 0x00 0x0200 0] := by
  decide

/-- L8, L9, L10 -/
theorem test_transfers :
    let t := after .tay { start with y := 0x05 }
    let u := after .tax { start with a := 0xFF }
    let v := after .txa { start with x := 0x01 }
    let w := after .tya { start with a := 0x01 }
    (t.y, t.p) = (0x00, 0x22) ∧ (u.x, u.flag .n) = (0xFF, true) ∧ (v.a, v.flag .z) = (0x01, false) ∧
      (w.a, w.flag .z) = (0x00, true) := by decide

/-- L6, L7 -/
theorem test_stack_pointer_transfers :
    let t := after .txs { start with p := 0x22 }
    let u := after .tsx { start with sp := 0x80 }
    (t.sp, t.p) = (0x00, 0x22) ∧ (u.x, u.p) = (0x80, 0xA0) := by decide

/-- A and P after ADC of an immediate from `a` and the status `p`. -/
def adcOf (a p m : Byte) : Byte × Byte :=
  let t := after (.adcImmediate m) { start with a := a, p := p }
  (t.a, t.p)

/-- A and P after SBC of an immediate. -/
def sbcOf (a p m : Byte) : Byte × Byte :=
  let t := after (.sbcImmediate m) { start with a := a, p := p }
  (t.a, t.p)

/-- A1 to A5 -/
theorem test_adc_binary :
    adcOf 0x50 0x20 0x50 = (0xA0, 0xE0) ∧ adcOf 0xFF 0x20 0x01 = (0x00, 0x23) ∧ adcOf 0x7F 0x20 0x01 = (0x80, 0xE0) ∧
      adcOf 0x80 0x20 0x80 = (0x00, 0x63) ∧ adcOf 0xFF 0x21 0x00 = (0x00, 0x23) := by decide

/-- A6 to A10 -/
theorem test_sbc_binary :
    sbcOf 0x50 0x21 0xB0 = (0xA0, 0xE0) ∧ sbcOf 0x00 0x21 0x01 = (0xFF, 0xA0) ∧ sbcOf 0x05 0x21 0x05 = (0x00, 0x23) ∧
      sbcOf 0x80 0x21 0x01 = (0x7F, 0x61) ∧ sbcOf 0x05 0x20 0x05 = (0xFF, 0xA0) := by decide

/-- D1 to D5b -/
theorem test_adc_decimal :
    adcOf 0x09 0x28 0x01 = (0x10, 0x28) ∧ adcOf 0x58 0x28 0x46 = (0x04, 0x69) ∧ adcOf 0x99 0x28 0x01 = (0x00, 0x2B) ∧
      adcOf 0x15 0x28 0x27 = (0x42, 0x28) ∧ adcOf 0x09 0x28 0x09 = (0x12, 0x28) ∧
      adcOf 0x99 0x28 0x99 = (0x32, 0x69) := by decide

/-- D6 to D12 -/
theorem test_sbc_decimal :
    sbcOf 0x50 0x29 0x20 = (0x30, 0x29) ∧ sbcOf 0x00 0x29 0x01 = (0x99, 0xA8) ∧ sbcOf 0x10 0x29 0x01 = (0x09, 0x29) ∧
      sbcOf 0x12 0x29 0x05 = (0x07, 0x29) ∧ sbcOf 0x46 0x29 0x12 = (0x34, 0x29) ∧
      sbcOf 0x21 0x29 0x34 = (0x87, 0xA8) ∧ sbcOf 0x32 0x28 0x02 = (0x29, 0x29) := by decide

/-- C1, C2, C3 -/
theorem test_logic :
    let t := after (.andImmediate 0x0F) { start with a := 0xF0 }
    let u := after (.oraImmediate 0x01) { start with a := 0x80 }
    let v := after (.eorImmediate 0xFF) { start with a := 0xFF }
    (t.a, t.p) = (0x00, 0x22) ∧ (u.a, u.p) = (0x81, 0xA0) ∧ (v.a, v.p) = (0x00, 0x22) := by decide

/-- C4, C5, C6, C11 -/
theorem test_cmp :
    (after (.cmpImmediate 0x20) { start with a := 0x10 }).p = 0xA0 ∧
      (after (.cmpImmediate 0x20) { start with a := 0x20 }).p = 0x23 ∧
      (after (.cmpImmediate 0x00) { start with a := 0xFF }).p = 0xA1 ∧
      (after (.cmpImmediate 0x20) { start with a := 0x10, p := 0x60 }).flag .v = true := by decide

/-- C7, C8 -/
theorem test_cpx_cpy :
    (after (.cpxImmediate 0x06) { start with x := 0x05 }).p = 0xA0 ∧
      (after (.cpyImmediate 0x01) { start with y := 0x80 }).p = 0x21 := by decide

/-- C9, C10 -/
theorem test_bit :
    let t := after (.bitZeroPage 0x10) (poke 0x0010 0xC0 { start with a := 0x0F })
    let u := after (.bitZeroPage 0x10) (poke 0x0010 0x01 { start with a := 0xFF, p := 0xE0 })
    (t.a, t.p, t.cyc) = (0x0F, 0xE2, 3) ∧ u.p = 0x20 := by decide

/-- H1 to H4 -/
theorem test_shift_accumulator :
    let t := after .aslAccumulator { start with a := 0x80 }
    let u := after .lsrAccumulator { start with a := 0x01 }
    let v := after .rolAccumulator { start with a := 0x80 }
    let w := after .rorAccumulator { start with a := 0x01, p := 0x21 }
    (t.a, t.p, t.cyc) = (0x00, 0x23, 2) ∧ (u.a, u.p) = (0x00, 0x23) ∧ (v.a, v.p) = (0x00, 0x23) ∧
      (w.a, w.p) = (0x80, 0xA1) := by decide

/-- R233, R234, H12 -/
theorem test_shift_more :
    let t := after .rolAccumulator { start with a := 0x81, p := 0x21 }
    let u := after .rorAccumulator { start with a := 0x02 }
    let v := after (.lsrAbsolute 0x3000) (poke 0x3000 0xFF start)
    (t.a, t.p) = (0x03, 0x21) ∧ (u.a, u.p) = (0x01, 0x20) ∧ (memRead v 0x3000, v.p, v.cyc) = (0x7F, 0x21, 6) := by
  decide

/-- H5, H11 -/
theorem test_inc :
    let t := after (.incZeroPage 0x10) (poke 0x0010 0xFF start)
    let u := after (.incAbsoluteX 0x0FFF) (poke 0x1000 0x41 { start with x := 0x01 })
    (memRead t 0x0010, t.p, t.cyc) = (0x00, 0x22, 5) ∧ hooks t = [.write 0x0010 0xFF 0x00 0x0200 0] ∧
      (memRead u 0x1000, u.cyc) = (0x42, 8) := by decide

/-- H6 -/
theorem test_dec :
    let t := after (.decZeroPage 0x10) start
    (memRead t 0x0010, t.p, t.cyc) = (0xFF, 0xA0, 5) := by decide

/-- H7 to H10, R238, R239 -/
theorem test_register_steps :
    let t := after .inx { start with x := 0xFF }
    let u := after .dey start
    let v := after .ina { start with a := 0x7F }
    let w := after .dea { start with a := 0x01 }
    (t.x, t.p) = (0x00, 0x22) ∧ (u.y, u.p) = (0xFF, 0xA0) ∧ (v.a, v.p) = (0x80, 0xA0) ∧ (w.a, w.p) = (0x00, 0x22) ∧
      (after .iny start).y = 0x01 ∧ (after .dex { start with x := 0x01 }).flag .z = true := by decide

/-- M1, M2 -/
theorem test_zero_page_x :
    let s := poke 0x0010 0x42 { start with x := 0x90 }
    (after (.ldaZeroPageX 0x80) s).a = 0x42 ∧
      (AddrForm.zeroPageX 0x80).ea { s with cfg := { Params.default with zpIndexWrap := .mod255 } } = 0x0011 := by decide

/-- M3, M4, M5 -/
theorem test_absolute_indexed :
    let t := after (.ldaAbsoluteX 0x0FFF) (poke 0x1000 0x11 { start with x := 0x01 })
    let u := after (.ldaAbsoluteX 0x10FF) (poke 0x1100 0x22 { start with x := 0x01 })
    let v := after (.ldaAbsoluteY 0xFFFF) (poke 0x0001 0x33 { start with y := 0x02 })
    (t.a, t.cyc) = (0x11, 5) ∧ (u.a, u.cyc) = (0x22, 4) ∧ (v.a, v.cyc) = (0x33, 5) := by decide

/-- M6, M7, M11 -/
theorem test_indexed_indirect :
    let t := after (.ldaIndexedIndirectX 0x20) (poke 0x0025 0x30 (poke 0x3000 0x44 { start with x := 0x04 }))
    let s := poke 0x0000 0x30 (poke 0x0100 0x40 (poke 0x3000 0x77 start))
    (t.a, t.cyc) = (0x44, 6) ∧ (after (.ldaIndexedIndirectX 0xFF) s).a = 0x77 ∧
      (AddrForm.indexedIndirectX 0xFF).ea { s with cfg := { Params.default with zpPtrHi := .linear } } = 0x4000 ∧
      (AddrForm.indexedIndirectX 0xF0).ea (poke 0x0011 0x12 { start with x := 0x20 }) = 0x1200 := by decide

/-- M8, M9 -/
theorem test_indirect_forms :
    let t := after (.ldaIndirectIndexedY 0x40)
      (poke 0x0040 0xF8 (poke 0x0041 0x2F (poke 0x3008 0x55 { start with y := 0x10 })))
    let u := after (.ldaZeroPageIndirect 0x40) (poke 0x0041 0x30 (poke 0x3000 0x66 start))
    (t.a, t.cyc) = (0x55, 6) ∧ (u.a, u.cyc) = (0x66, 5) := by decide

/-- B1, B2, B3, B5 -/
theorem test_branches :
    let t := after (.beq 0x02) { start with pc := 0x0FFC, p := 0x22 }
    let u := after (.bne 0xFE) { start with pc := 0x1000 }
    let v := after (.bcs 0x10) { start with pc := 0x0300 }
    let w := after (.bmi 0x80) { start with pc := 0x1000, p := 0xA0 }
    (t.pc, t.cyc) = (0x1000, 4) ∧ (u.pc, u.cyc) = (0x1000, 3) ∧ (v.pc, v.cyc) = (0x0302, 2) ∧
      (w.pc, w.cyc) = (0x0F82, 4) := by decide

/-- B4, B6, B7, B8, R267 -/
theorem test_branches_more :
    let t := after (.bra 0x20) { start with pc := 0xFFF0 }
    let u := after (.bpl 0x20) { start with pc := 0x10F0 }
    let v := after (.bcc 0x00) { start with pc := 0x0FFE }
    let w := after (.bvs 0x05) { start with pc := 0x0300, p := 0x60 }
    (t.pc, t.cyc) = (0x0012, 4) ∧ (u.pc, u.cyc) = (0x1112, 3) ∧ (v.pc, v.cyc) = (0x1000, 3) ∧
      (w.pc, w.cyc) = (0x0307, 3) ∧ (after (.bvc 0x05) { start with p := 0x60 }).pc = 0x0202 := by decide

/-- J1, M10 -/
theorem test_jmp :
    let t := after (.jmpAbsolute 0x1000) start
    let s := poke 0x0300 0x40 (poke 0x0200 0x6C start)
    (t.pc, t.cyc) = (0x1000, 3) ∧ ((after (.jmpIndirect 0x02FF) s).pc, (after (.jmpIndirect 0x02FF) s).cyc) = (0x4000, 5) ∧
      (after (.jmpIndirect 0x02FF) { s with cfg := { Params.default with jmpIndWrap := .pageBug } }).pc = 0x6C00 := by
  decide

/-- J2 -/
theorem test_jsr :
    let t := after (.jsr 0x0310) { start with pc := 0x0302 }
    (memRead t 0x01FF, memRead t 0x01FE, t.sp, t.pc, t.cyc) = (0x03, 0x04, 0xFD, 0x0310, 6) ∧
      t.shadow = [⟨0x0310, 0xFF⟩] ∧ cellGet t.rcalls 0x0310 = 1 ∧ cellGet t.rcyc 0x0310 = 6 := by decide

/-- J7, J8 -/
theorem test_jsr_overflow :
    let t := after (.jsr 0x3000) { start with sp := 0x01 }
    let u := after (.jsr 0x3000) { start with sp := 0x00 }
    (memRead t 0x0101, t.run, t.shadow, t.rcalls, t.cyc) =
        (0x02, .fatal .stackOverflow (some 0x0200) (some 0x20), [], [], 0) ∧
      (u.mem, u.run) = ([], .fatal .stackOverflow (some 0x0200) (some 0x20)) := by decide

/-- The state of vectors J3, J4: a return address of 0x0304 on the stack. -/
def called (recorded : Byte) : State :=
  poke 0x01FE 0x04 (poke 0x01FF 0x03 { start with sp := 0xFD, shadow := [⟨0x0310, recorded⟩] })

/-- J3, J4 -/
theorem test_rts :
    let t := after .rts (called 0xFF)
    let u := after .rts (called 0xFB)
    (t.pc, t.sp, t.shadow, t.cyc) = (0x0305, 0xFF, [], 6) ∧ (u.pc, u.sp, u.shadow) = (0x0305, 0xFF, [⟨0x0310, 0xFB⟩]) := by
  decide

/-- J9, J11 -/
theorem test_rts_edges :
    (after .rts { start with sp := 0xFE }).run = .fatal .stackUnderrun (some 0x0200) (some 0x60) ∧
      (after .rts (poke 0x01FE 0xFF (poke 0x01FF 0xFF { start with sp := 0xFD }))).pc = 0x0000 := by decide

/-- J5, J6 -/
theorem test_rti :
    let t := after .rti (poke 0x01FD 0xC3 (poke 0x01FF 0x20 { start with sp := 0xFC }))
    (t.p, t.pc, t.sp, t.cyc) = (0xE3, 0x2000, 0xFF, 6) ∧ (after .rti { start with sp := 0xFC }).p = 0x20 := by decide

/-- J10 -/
theorem test_brk :
    let t := after .brk start
    (t.run, t.mem, t.sp, t.p, t.cyc) =
      (.fatal .unimplementedOpcode (some 0x0200) (some 0x00), [], 0xFF, 0x20, 0) ∧
      t.port = [.error (some 0x0200) .unimplementedOpcode] := by decide

/-- K1, K2, K6, K7, R293, and the write hook of a push (R70). -/
theorem test_pushes :
    let t := after .pha { start with a := 0x42 }
    let u := after .php { start with p := 0xE3 }
    let v := after .php { start with p := 0xE3, cfg := { Params.default with phpB := .forceSet } }
    let w := after .phy { start with y := 0x22, sp := 0x01 }
    (memRead t 0x01FF, t.sp, t.cyc) = (0x42, 0xFE, 3) ∧ hooks t = [.write 0x01FF 0 0x42 0x0200 0] ∧ memRead u 0x01FF = 0xE3 ∧ memRead v 0x01FF = 0xF3 ∧
      (memRead w 0x0101, w.sp) = (0x22, 0x00) ∧ memRead (after .phx { start with x := 0x11 }) 0x01FF = 0x11 ∧
      (after .pha { start with sp := 0x00 }).run = .fatal .stackOverflow (some 0x0200) (some 0x48) := by decide

/-- K3, K4, K5, R294, R296, R297 -/
theorem test_pulls :
    let s := { start with sp := 0xFE }
    let t := after .plp s
    (t.p, t.sp, t.cyc) = (0x20, 0xFF, 4) ∧ (after .plp (poke 0x01FF 0xFF s)).p = 0xFF ∧
      (after .pla start).run = .fatal .stackUnderrun (some 0x0200) (some 0x68) ∧
      (after .pla (poke 0x01FF 0x80 s)).p = 0xA0 ∧ (after .plx s).p = 0x22 ∧
      (after .ply (poke 0x01FE 0x05 { start with sp := 0xFD })).y = 0x05 := by decide

/-- K8 to K11 -/
theorem test_flag_instructions :
    (after .clv { start with p := 0x60 }).p = 0x20 ∧
      (after .sei (after .sed (after .sec start))).p = 0x2D ∧
      (after .cli (after .cld (after .clc { start with p := 0x2D }))).p = 0x20 ∧
      ((after .nop start).pc, (after .nop start).cyc) = (0x0201, 2) := by decide

/-! ### The step, the profiler, the ports and the setup -/

/-- S1, T7: the first step of the source's scenario, with its log line. -/
theorem test_step_lda :
    let t := stepped 16 0x05A9 State.reset
    (t.a, t.p, t.pc, t.cyc, t.run) = (0x05, 0x20, 0x0002, 2, .running) ∧
      t.port = [.log 0x0000 0x05 0x00 0x00 0x0002 0xFF 0x20] := by decide

/-- E1, R352 -/
theorem test_step_decode_error :
    let t := stepped 8 0x02 start
    (t.run, t.pc, t.cyc, t.a, t.sp) = (.fatal .decodeError (some 0x0200) (some 0x02), 0x0201, 0, 0, 0xFF) := by decide

/-- R128: a run that has ended takes no step. -/
theorem test_step_ended :
    (match step { start with run := .stopped .quit } with
      | .fault (.runEnded (.stopped .quit)) => true
      | _ => false) = true := by decide

/-- P7, R130: the third pass with FRAME_LIMIT = 3 stops the run before the fetch, the second does not; and R127: a quit. -/
theorem test_boundaries :
    let cfg := { Params.default with frameAddr := some 0x0700, frameLimit := some 3 }
    let t := stepped 8 0xE8 { State.reset with pc := 0x0700, frames := 2, cfg := cfg }
    let u := stepped 8 0xE8 { State.reset with pc := 0x0700, frames := 1, cfg := cfg }
    (t.frames, t.run, t.x, t.pc) = (3, .stopped .frameLimit, 0, 0x0700) ∧ (u.frames, u.run, u.x) = (2, .running, 1) ∧
      (stepped 8 0xEA { State.reset with hostQuit := [true] }).run = .stopped .quit := by decide

/-- S2: a pre-phase and a post-phase watch of A at 0x1000. -/
theorem test_watch :
    let ws := [⟨0, 0x1000, .pre, .u8, .reg .a⟩, ⟨0, 0x1000, .post, .u8, .reg .a⟩]
    let t := stepped 16 0x42A9
      { State.reset with pc := 0x1000, a := 0x07, cyc := 100, cfg := { Params.default with watches := ws } }
    t.port = [.watch none 0 100 [7], .log 0x1000 0x42 0 0 0x1002 0xFF 0x20, .watch none 0 102 [66]] := by decide

/-- R329, R330: signed and 16-bit samples, and records grouped by index. -/
theorem test_watch_records :
    let ws := [⟨1, 0x0200, .pre, .s8, .mem 0x0010⟩, ⟨1, 0x0200, .pre, .u16, .mem 0x0010⟩,
      ⟨2, 0x0200, .pre, .s16, .mem 0x0010⟩]
    watchRecords .pre 0x0200
        (poke 0x0010 0xFF (poke 0x0011 0x80 { start with cfg := { Params.default with watches := ws } })) =
      [.watch none 1 0 [-1, 33023], .watch none 2 0 [-32513]] := by decide

/-- T1's inner return, T3 and T2: attribution to the new top, a full shadow stack, and no routine. -/
theorem test_profiler :
    let t := after .rts (poke 0x01FC 0x02 (poke 0x01FD 0x05
      { start with sp := 0xFB, shadow := [⟨0x0600, 0xFD⟩, ⟨0x0500, 0xFF⟩] }))
    let u := after (.jsr 0x3000) { start with shadow := [⟨0x0500, 0xFF⟩], cfg := { Params.default with shadowDepth := 1 } }
    (t.pc, t.shadow, cellGet t.rcyc 0x0500) = (0x0503, [⟨0x0500, 0xFF⟩], 6) ∧
      (u.shadow, cellGet u.rcalls 0x3000, cellGet u.rcyc 0x0500) = ([⟨0x0500, 0xFF⟩], 1, 6) ∧
      (after .rts (called 0xFF)).rcyc = [] := by decide

/-- P6, R336: the row of the routine that leaves a stale frame, with its two quotients; no calls, no quotient (log 28). -/
theorem test_profiling_table :
    let s := { start with cyc := 29, rcyc := [(0x0510, 23), (0x0520, 6)], rcalls := [(0x0510, 1), (0x0520, 1)] }
    profileRow s 0x0510 = some ⟨0x0510, 23, some (2300 / 29), 1, some 23⟩ ∧
      profileRow s 0x0530 = some ⟨0x0530, 0, some 0, 0, none⟩ ∧ profileRow (s.setRun (.fatal .ioError none none)) 0x0510 = none := by
  decide +kernel

/-- R323 where R324 says otherwise (log 18): a call dropped at a full SHADOW whose stale top frame recorded the SP of the call;
its RTS matches that frame by value and pops it. -/
theorem test_stale_frame_at_full_shadow :
    let s := { start with shadow := [⟨0x0510, 0xFF⟩], cfg := { Params.default with shadowDepth := 1 } }
    let t := after (.jsr 0x3000) s
    (t.shadow, t.sp) = ([⟨0x0510, 0xFF⟩], 0xFD) ∧ (after .rts t).shadow = [] := by decide

/-- T4, T5, T6 -/
theorem test_trace_helpers :
    cycleMarks 99998 100004 = [.cycles 100000] ∧ cycleMarks 100000 100004 = [] ∧
      frameAt 0xFD [⟨0x0600, 0xFD⟩, ⟨0x0500, 0xFF⟩] = some 0x0500 ∧ frameAt 0xFF [⟨0x0500, 0x01⟩] = none := by decide

/-- P2: the events `jsr 0x0310 8` and `rts 16`, and D30: the count before the cost. -/
theorem test_call_events :
    let s := { start with pc := 0x0302, cyc := 2 }
    let u := after .rts { called 0xFF with cyc := 10 }
    (after (.jsr 0x0310) s).port =
        [.write 0x01FF 0 0x03 0x0302 2, .write 0x01FE 0 0x04 0x0302 2, .jsr 0x0310 8, .log 0x0302 0 0 0 0x0310 0xFD 0x20] ∧
      hooks u = [.rts 16] ∧
      hooks (after .rts { called 0xFF with cyc := 10, cfg := { Params.default with traceCyclesPoint := .before } }) =
        [.rts 10] := by decide

/-- R334: a screen event only when the status byte changes. -/
theorem test_screen :
    let s := { start with a := 0x01, cfg := { Params.default with screenStatusAddr := some 0x0010 } }
    hooks (after (.staZeroPage 0x10) s) = [.write 0x0010 0 1 0x0200 0, .screen 0] ∧
      hooks (after (.staZeroPage 0x10) (poke 0x0010 0x01 s)) = [.write 0x0010 1 1 0x0200 0] := by decide

/-- S1, E5, E6, R357: the setup of a run. -/
theorem test_setup :
    setup .default 0 0 (some [0xA9, 0x05, 0x00]) = some { State.reset with mem := [(0, 0xA9), (1, 0x05)] } ∧
      ((setup .default 0 0 none).map fun s => s.run) = some (.fatal .ioError none none) ∧
      setup { Params.default with watches := [⟨0, 0, .pre, .u16, .reg .a⟩] } 0 0 (some []) = none ∧
      loadImage (List.replicate 32 0x11) 0xFFF0 [] = (List.range 16).map fun k => (0xFFF0 + k, 0x11) := by decide

/-- R43, R380: State.reset is the setup with the default parameters, an empty image and START_ADDR = 0x0000. -/
theorem test_reset_is_setup : setup .default 0 0 (some []) = some State.reset := by decide


/-! ### Witnesses: states and operands that meet the hypotheses of the statements, at the boundary of each clause -/

/-- `start` with another SP. -/
def atSp (v : Byte) : State := { start with sp := v }

/-- `start` with the other setting of every choice of R9, a watch, a frame limit of 1 at its PC and a quit for the second
boundary to come. -/
def other : State :=
  { start with
    cfg := { Params.default with
      zpIndexWrap := .mod255, zpPtrHi := .linear, jmpIndWrap := .pageBug, zpiOps := false, phpB := .forceSet
      frameAddr := some 0x0200, frameLimit := some 1, watches := [⟨0, 0x0200, .pre, .u8, .reg .a⟩] }
    hostQuit := [false, true] }

theorem witness_DecodeInvertsEncode :
    Instr.wellFormed true (.ldaZeroPageIndirect 0xFF) = true ∧ Instr.wellFormed false (.jmpIndirect 0xFFFF) = true := by
  decide

theorem witness_DecodeAcceptsOnlyEncodings :
    decode true [0xB2, 0xFF, 0x01] = .instr (.ldaZeroPageIndirect 0xFF) [0x01] ∧
      decode false [0x20, 0x00, 0xFF] = .instr (.jsr 0xFF00) [] := by decide

theorem witness_UndefinedBytesHaveNoEntry :
    decode true [0x02] = .undefinedOpcode 0x02 ∧ decode true [0xFF] = .undefinedOpcode 0xFF ∧
      decode false [0xB2, 0x10] = .undefinedOpcode 0xB2 := by decide

theorem witness_WordReadsAreLittleEndian : start.cfg.zpPtrHi = .zpWrap ∧ other.cfg.zpPtrHi = .linear := by decide

theorem witness_PushWritesThenDecrements :
    (atSp 0x00).sp = 0x00 ∧ (atSp 0x01).sp ≠ 0x00 ∧ (atSp 0xFF).sp ≠ 0x00 := by decide

theorem witness_PopIncrementsThenReads :
    (atSp 0xFF).sp = 0xFF ∧ (atSp 0xFE).sp ≠ 0xFF ∧ (atSp 0x00).sp ≠ 0xFF := by decide

theorem witness_StackHolds255Bytes : start.run = .running ∧ start.sp = 0xFF := by decide

theorem witness_ZeroPageIndexWraps :
    (AddrForm.zeroPageX 0xFF = .zeroPageX 0xFF ∧ start.x = start.x) ∧ start.cfg.zpIndexWrap = .mod256 ∧
      other.cfg.zpIndexWrap = .mod255 ∧ (AddrForm.zeroPageX 0xFF).ea { start with x := 0x01 } = 0x0000 ∧
      (AddrForm.zeroPageY 0xFF).ea { other with y := 0x01 } = 0x0001 := by decide

theorem witness_IndexedAddressesAndPenalty :
    let s := poke 0x0010 0xFF (poke 0x0011 0x0F { start with x := 0x01, y := 0x01 })
    (AddrForm.absoluteX 0xFFFF).ea s = 0x0000 ∧ (AddrForm.absoluteX 0xFFFF).adj s = 1 ∧
      (AddrForm.absoluteY 0x10FF).adj s = 0 ∧ memReadZp16 s 0x10 = 0x0FFF ∧ (AddrForm.indirectIndexedY 0x10).adj s = 1 := by
  decide

theorem witness_PointerAddresses : start.cfg.jmpIndWrap = .linear ∧ other.cfg.jmpIndWrap = .pageBug := by decide

theorem witness_DecimalSubtractGivesBcdDifference :
    (0x99 : Byte).toNat % 16 ≤ 9 ∧ (0x99 : Byte).toNat / 16 ≤ 9 ∧ (0x00 : Byte).toNat % 16 ≤ 9 ∧
      (0x00 : Byte).toNat / 16 ≤ 9 := by decide

theorem witness_AdcAddsWithCarry :
    ⟨.adcImmediate 0xFF, 0x69, 2, .imm 0xFF⟩ ∈ adcForms 0xFF 0xFFFF ∧
      ⟨.adcZeroPageIndirect 0xFF, 0x72, 5, .mem (.zeroPageIndirect 0xFF)⟩ ∈ adcForms 0xFF 0xFFFF := by decide

theorem witness_SbcSubtractsWithBorrow :
    ⟨.sbcImmediate 0xFF, 0xE9, 2, .imm 0xFF⟩ ∈ sbcForms 0xFF 0xFFFF ∧
      ⟨.sbcAbsoluteX 0xFFFF, 0xFD, 4, .mem (.absoluteX 0xFFFF)⟩ ∈ sbcForms 0xFF 0xFFFF := by decide

theorem witness_LogicWritesAWithZN :
    (⟨.andImmediate 0x0F, 0x29, 2, .imm 0x0F⟩ ∈ andForms 0x0F 0 ∧ (0x00 : Byte) = start.a &&& 0x0F) ∧
      (⟨.oraImmediate 0x0F, 0x09, 2, .imm 0x0F⟩ ∈ oraForms 0x0F 0 ∧ (0x0F : Byte) = start.a ||| 0x0F) ∧
      (⟨.eorImmediate 0x0F, 0x49, 2, .imm 0x0F⟩ ∈ eorForms 0x0F 0 ∧ (0x0F : Byte) = start.a ^^^ 0x0F) := by decide

theorem witness_CompareSetsCZN :
    (⟨.cmpImmediate 0x01, 0xC9, 2, .imm 0x01⟩ ∈ cmpForms 0x01 0 ∧ (0x00 : Byte) = start.a) ∧
      (⟨.cpxImmediate 0x01, 0xE0, 2, .imm 0x01⟩ ∈ cpxForms 0x01 0 ∧ (0x00 : Byte) = start.x) ∧
      (⟨.cpyImmediate 0x01, 0xC0, 2, .imm 0x01⟩ ∈ cpyForms 0x01 0 ∧ (0x00 : Byte) = start.y) := by decide

theorem witness_BitTestsOperandBits :
    ⟨.bitZeroPage 0x10, 0x24, 3, .mem (.zeroPage 0x10)⟩ ∈ bitForms 0x10 0x0300 ∧
      ⟨.bitAbsolute 0x0300, 0x2C, 4, .mem (.absolute 0x0300)⟩ ∈ bitForms 0x10 0x0300 := by decide

theorem witness_LoadsWriteRegisterWithZN :
    (⟨.ldaImmediate 0x80, 0xA9, 2, .imm 0x80⟩ ∈ ldaForms 0x80 0 ∧ Reg.a = .a) ∧
      (⟨.ldxZeroPageY 0x80, 0xB6, 4, .mem (.zeroPageY 0x80)⟩ ∈ ldxForms 0x80 0 ∧ Reg.x = .x) ∧
      (⟨.ldyAbsoluteX 0, 0xBC, 4, .mem (.absoluteX 0)⟩ ∈ ldyForms 0x80 0 ∧ Reg.y = .y) := by decide

theorem witness_StoresWriteOneByte :
    (⟨.staAbsoluteY 0xFFFF, 0x99, 5, .absoluteY 0xFFFF⟩ ∈ staForms 0 0xFFFF ∧ (0x00 : Byte) = start.a) ∧
      (⟨.stxZeroPageY 0, 0x96, 4, .zeroPageY 0⟩ ∈ stxForms 0 0xFFFF ∧ (0x00 : Byte) = start.x) ∧
      (⟨.styZeroPageX 0, 0x94, 4, .zeroPageX 0⟩ ∈ styForms 0 0xFFFF ∧ (0x00 : Byte) = start.y) ∧
      ⟨.stzAbsoluteX 0xFFFF, 0x9E, 5, .absoluteX 0xFFFF⟩ ∈ stzForms 0 0xFFFF := by decide

theorem witness_TransfersWriteRegisterWithZN :
    (Instr.tsx, (0xBA : Byte), Reg.x, start.sp) ∈ [(Instr.tax, (0xAA : Byte), Reg.x, start.a), (.tay, 0xA8, .y, start.a),
      (.txa, 0x8A, .a, start.x), (.tya, 0x98, .a, start.y), (.tsx, 0xBA, .x, start.sp)] := by decide

/-- One form of each of the six instructions, on the byte 0x00 at 0xFFFF with C = 0. -/
theorem witness_ReadModifyWriteMemory :
    let m := AddrForm.absolute 0xFFFF
    memRead start (m.ea start) = 0x00 ∧ start.flag .c = false ∧
      (⟨.aslAbsolute 0xFFFF, 0x0E, 6, .mem m⟩ ∈ aslForms 0 0xFFFF ∧ (0x00 : Byte) = BitVec.ofNat 8 (0 * 2)) ∧
      (⟨.lsrAbsolute 0xFFFF, 0x4E, 6, .mem m⟩ ∈ lsrForms 0 0xFFFF ∧ (0x00 : Byte) = BitVec.ofNat 8 (0 / 2)) ∧
      (⟨.rolAbsolute 0xFFFF, 0x2E, 6, .mem m⟩ ∈ rolForms 0 0xFFFF ∧ (0x00 : Byte) = BitVec.ofNat 8 (0 * 2 + 0)) ∧
      (⟨.rorAbsolute 0xFFFF, 0x6E, 6, .mem m⟩ ∈ rorForms 0 0xFFFF ∧ (0x00 : Byte) = BitVec.ofNat 8 (0 / 2 + 128 * 0)) ∧
      (⟨.incAbsolute 0xFFFF, 0xEE, 6, .mem m⟩ ∈ incForms 0 0xFFFF ∧ (0x01 : Byte) = BitVec.ofNat 8 (0 + 1)) ∧
      (⟨.decAbsolute 0xFFFF, 0xCE, 6, .mem m⟩ ∈ decForms 0 0xFFFF ∧ (0xFF : Byte) = BitVec.ofNat 8 (0 + 255)) := by decide

/-- From A = 0x81 with C = 1. -/
theorem witness_ShiftsOfTheAccumulator :
    let s := { start with a := 0x81, p := 0x21 }
    (Instr.rorAccumulator, (0x6A : Byte), (0xC0 : Byte), true) ∈
      [(Instr.aslAccumulator, (0x0A : Byte), BitVec.ofNat 8 (s.a.toNat * 2), s.a.getLsbD 7),
        (.lsrAccumulator, 0x4A, BitVec.ofNat 8 (s.a.toNat / 2), s.a.getLsbD 0),
        (.rolAccumulator, 0x2A, BitVec.ofNat 8 (s.a.toNat * 2 + (s.flag .c).toNat), s.a.getLsbD 7),
        (.rorAccumulator, 0x6A, BitVec.ofNat 8 (s.a.toNat / 2 + 128 * (s.flag .c).toNat), s.a.getLsbD 0)] := by decide

theorem witness_RegisterIncrementsWrap :
    (Instr.dea, (0x3A : Byte), Reg.a, 255) ∈ [(Instr.inx, (0xE8 : Byte), Reg.x, 1), (.iny, 0xC8, .y, 1),
      (.dex, 0xCA, .x, 255), (.dey, 0x88, .y, 255), (.ina, 0x1A, .a, 1), (.dea, 0x3A, .a, 255)] := by decide

/-- A branch taken, one not taken, and BRA. -/
theorem witness_BranchesAddTheOffset :
    ((Instr.bcc 0x80, (0x90 : Byte), Flag.c, false) ∈ branchForms 0x80 ∧ true = (start.flag .c == false)) ∧
      ((Instr.beq 0x7F, (0xF0 : Byte), Flag.z, true) ∈ branchForms 0x7F ∧ false = (start.flag .z == true)) ∧
      Instr.bra 0xFE = .bra 0xFE := by decide

theorem witness_JmpTakesTheTarget :
    (Instr.jmpIndirect 0x02FF, (0x6C : Byte), AddrForm.indirect 0x02FF) ∈
      [(Instr.jmpAbsolute 0x02FF, (0x4C : Byte), AddrForm.absolute 0x02FF), (.jmpIndirect 0x02FF, 0x6C, .indirect 0x02FF)] := by
  decide

/-- Room on both stacks, room on the real one alone, and too little of it. -/
theorem witness_JsrPushesTheReturnAddress :
    let full := { atSp 0x02 with shadow := [⟨0x0510, 0xFF⟩], cfg := { Params.default with shadowDepth := 1 } }
    2 ≤ (atSp 0x02).sp.toNat ∧ 2 ≤ (atSp 0xFF).sp.toNat ∧ (atSp 0xFF).shadow.length < (atSp 0xFF).cfg.shadowDepth ∧
      2 ≤ full.sp.toNat ∧ ¬ full.shadow.length < full.cfg.shadowDepth ∧ (atSp 0x01).sp = 0x01 ∧ (atSp 0x00).sp = 0x00 := by
  decide

/-- Room to pop, with a top frame that matches, one that does not, and none; and too little on the stack. -/
theorem witness_RtsPopsTheReturnAddress :
    (atSp 0xFD).sp.toNat ≤ 0xFD ∧ 0xFE ≤ (atSp 0xFE).sp.toNat ∧ 0xFE ≤ (atSp 0xFF).sp.toNat ∧
      (called 0xFF).shadow.head?.map (fun f => f.sp.toNat) = some ((called 0xFF).sp.toNat + 2) ∧
      (∀ f ∈ (called 0xFE).shadow.head?, f.sp.toNat ≠ (called 0xFE).sp.toNat + 2) ∧
      (∀ f ∈ (atSp 0xFD).shadow.head?, f.sp.toNat ≠ (atSp 0xFD).sp.toNat + 2) := by decide

theorem witness_RtiPopsStatusAndPc :
    (atSp 0xFC).sp.toNat ≤ 0xFC ∧ 0xFD ≤ (atSp 0xFD).sp.toNat ∧ 0xFD ≤ (atSp 0xFF).sp.toNat := by decide

theorem witness_PushesStoreTheirRegister :
    (Instr.phy, (0x5A : Byte), start.y) ∈ [(Instr.pha, (0x48 : Byte), start.a), (.phx, 0xDA, start.x), (.phy, 0x5A, start.y)] ∧
      (atSp 0x01).sp ≠ 0x00 ∧ (atSp 0x00).sp = 0x00 := by decide

theorem witness_PhpPushesTheStatus :
    (atSp 0x01).sp ≠ 0x00 ∧ (atSp 0x00).sp = 0x00 ∧ start.cfg.phpB ≠ .forceSet ∧ other.cfg.phpB = .forceSet := by decide

theorem witness_PullsLoadTheirRegister :
    (Instr.plx, (0xFA : Byte), Reg.x) ∈ [(Instr.pla, (0x68 : Byte), Reg.a), (.plx, 0xFA, .x), (.ply, 0x7A, .y)] ∧
      (atSp 0xFE).sp ≠ 0xFF ∧ (atSp 0xFF).sp = 0xFF := by decide

theorem witness_PlpLoadsTheStatus : (atSp 0xFE).sp ≠ 0xFF ∧ (atSp 0xFF).sp = 0xFF ∧ Flag.b ≠ .u := by decide

theorem witness_FlagInstructionsWriteOneFlag : (Instr.sed, (0xF8 : Byte), Flag.d, true) ∈ flagForms := by decide

/-- A watch of each source that is sampled, at the edges of the ranges of s8 and s16. -/
theorem witness_RecordsGroupNeighbouringSamples :
    let s := poke 0xFFFF 0x7F (poke 0x0000 0x80 { other with a := 0x80 })
    (other.cfg.watches.filter fun w => w.pc = 0x0200 ∧ w.phase = .pre) = [⟨0, 0x0200, .pre, .u8, .reg .a⟩] ∧
      (WatchSource.mem 0xFFFF = .mem 0xFFFF ∧ (0x7F : Byte) = memRead s 0xFFFF) ∧
      (WatchSource.reg .a = .reg .a ∧ (0x80 : Byte) = s.reg .a) ∧
      256 * (memRead s (0xFFFF + 1)).toNat + (memRead s 0xFFFF).toNat = 0x807F := by decide

/-- A completed JSR that crosses a multiple of 100000, a completed RTS and a completed push, for CycleMarksAreTheMultiplesCrossed and
CompletedInstructionsLog. -/
theorem witness_calls_complete :
    let s := { start with cyc := 99998 }
    exec (.jsr 0x0310) s = .next (after (.jsr 0x0310) s) ∧ s.run = .running ∧ (after (.jsr 0x0310) s).run = .running ∧
      100000 % 100000 = 0 ∧ s.cyc.toNat < 100000 ∧ 100000 ≤ (after (.jsr 0x0310) s).cyc.toNat ∧
      exec .rts (called 0xFF) = .next (after .rts (called 0xFF)) ∧ (called 0xFF).run = .running ∧
      (after .rts (called 0xFF)).run = .running ∧
      exec .php (atSp 0x01) = .next (after .php (atSp 0x01)) ∧ (after .php (atSp 0x01)).run = .running ∧
      storedAddrs .php (atSp 0x01) = [0x0101] ∧ storedAddrs (.jsr 0x0310) s = [0x01FF, 0x01FE] :=
  ⟨rfl, rfl, rfl, by decide, by decide, by decide, rfl, rfl, rfl, rfl, rfl, by decide, by decide⟩

/-- A completed instruction: the hypotheses of CostGoesToTheInnermostRoutine, CompletedInstructionsLog,
OnlyJsrAndRtsDriveTheProfiler, OnlyNamedInstructionsWriteRegisters, OnlyNamedInstructionsWriteFlags and
OnlyStoredBytesChange. -/
theorem witness_completed_instruction :
    exec .nop start = .next (after .nop start) ∧ start.run = .running ∧ (after .nop start).run = .running ∧
      (∀ a, Instr.nop ≠ .jsr a) ∧ Instr.nop ≠ .rts ∧ mnemonicOf .nop = "NOP" := ⟨rfl, rfl, rfl, nofun, nofun, rfl⟩

/-- The hypothesis of the full shadow stack, and that of room on it. -/
theorem witness_OnlyJsrAndRtsDriveTheProfiler :
    let full := { start with cfg := { Params.default with shadowDepth := 0 } }
    full.cfg.shadowDepth ≤ full.shadow.length ∧ start.shadow.length < start.cfg.shadowDepth := by decide

theorem witness_CompletedFormsCostTheirCycles :
    (Instr.ldaAbsoluteX 0xFFFF, 4 + (AddrForm.absoluteX 0xFFFF).adj start) ∈ costForms 0 0xFFFF start ∧
      (Instr.pla, 4) ∈ costForms 0 0xFFFF start ∧ exec (.ldaAbsoluteX 0xFFFF) start = .next (after (.ldaAbsoluteX 0xFFFF) start) ∧
      (after (.ldaAbsoluteX 0xFFFF) start).run = .running := ⟨by decide, by decide, rfl, rfl⟩

theorem witness_FatalErrorsArePrecise :
    exec .pha (atSp 0x00) = .next (after .pha (atSp 0x00)) ∧ (atSp 0x00).run = .running ∧
      (after .pha (atSp 0x00)).run ≠ .running := ⟨rfl, rfl, by decide⟩

theorem witness_NestedCallsReturn :
    [(0x0500 : Word), 0x0600] ≠ [] ∧ (atSp 0x04).run = .running ∧ 2 * [(0x0500 : Word), 0x0600].length ≤ (atSp 0x04).sp.toNat ∧
      (atSp 0x04).shadow.length + [(0x0500 : Word), 0x0600].length ≤ (atSp 0x04).cfg.shadowDepth := by decide

/-- The second part, and the first with a watch and a frame boundary that lets the run go on. -/
theorem witness_StepRunsTheDecodedInstruction :
    let s := poke 0x0200 0xA9 (poke 0x0201 0x05 start)
    let w := poke 0x0200 0xA9 (poke 0x0201 0x05 { other with cfg := { other.cfg with frameLimit := some 2 } })
    s.run = .running ∧ s.hostQuit = [] ∧ s.cfg.frameAddr = none ∧ s.cfg.watches = [] ∧
      decode s.cfg.zpiOps (fetchBytes s) = .instr (.ldaImmediate 0x05) [0x00] ∧ w.run = .running ∧
      (boundary w).run = .running ∧ decode w.cfg.zpiOps (fetchBytes w) = .instr (.ldaImmediate 0x05) [0x00] := by decide

theorem witness_StepRaisesDecodeError :
    let s := poke 0x0200 0x02 start
    s.run = .running ∧ (boundary s).run = .running ∧
      decode s.cfg.zpiOps (fetchBytes s) = .undefinedOpcode (memRead s s.pc) := by decide

theorem witness_EndedRunsTakeNoStep :
    (start.setRun (.stopped .frameLimit)).run ≠ .running ∧ (start.setRun (.fatal .ioError none none)).run ≠ .running := by
  decide

/-- A quit; a frame limit reached, with a quit for a later boundary or none; and a boundary away from FRAME_ADDR. -/
theorem witness_BoundaryStopsTheRun :
    { start with hostQuit := [true] }.hostQuit = true :: [] ∧ other.run = .running ∧ other.hostQuit.head? ≠ some true ∧
      other.cfg.frameAddr = some other.pc ∧ other.cfg.frameLimit = some 1 ∧ other.frames + 1 = 1 ∧
      { other with hostQuit := [] }.hostQuit.head? ≠ some true ∧
      step (other.setPc 0x0300) = .next (stepped 0 0 (other.setPc 0x0300)) := ⟨rfl, rfl, by decide, rfl, rfl, rfl, by decide, rfl⟩

theorem witness_StepKeepsTheInvariant :
    start.Inv ∧ step (poke 0x0200 0xEA start) = .next (stepped 8 0xEA start) ∧ (poke 0x0200 0xEA start).Inv :=
  ⟨⟨rfl, rfl, rfl, rfl, by decide, nofun⟩, rfl, ⟨rfl, rfl, rfl, rfl, by decide, nofun⟩⟩

theorem witness_RunningStatesHaveANextState : start.run = .running ∧ other.run = .running := ⟨rfl, rfl⟩

/-- Two states with different cycle counts, profilers, watches, frame limits and quit signals. -/
theorem witness_InstructionsCannotObserveTheProfiler :
    start.SameCore { start with
      cyc := 7, shadow := [⟨0x0500, 0xFF⟩], rcyc := [(5, 1)], frames := 3, hostQuit := [true]
      cfg := { Params.default with shadowDepth := 0, frameAddr := some 0, screenStatusAddr := some 0, watches := [⟨0, 0, .pre, .u8, .reg .a⟩] } } :=
  ⟨rfl, rfl, rfl, rfl, rfl, rfl, rfl, rfl, ⟨rfl, rfl, rfl, rfl, rfl, rfl, rfl⟩⟩

theorem witness_ImageLoadsWithoutWrap :
    setup .default 0xFFF0 0xFFFE (some [0x11, 0x22, 0x33]) =
      some { State.reset with pc := 0xFFF0, mem := [(0xFFFE, 0x11), (0xFFFF, 0x22)] } ∧
      ∃ w ∈ [(⟨0, 0, .pre, .u16, .reg .a⟩ : Watch)], w.accepted = false := by decide

end Sys2Proof.Tests
end

section
/-! PROOF. `Pop` (10_state.md R28) and its StackUnderrun (60_exceptions.md R355). -/

namespace Sys2Proof.Machine

/-- Away from 0xFF the stack pointer increments without a wrap. -/
theorem sp_succ_toNat {sp : Byte} (h : sp ≠ 0xFF) : (sp + 1).toNat = sp.toNat + 1 := by
  have hne : sp.toNat ≠ 255 := fun e => h (BitVec.eq_of_toNat_eq e)
  have hlt : sp.toNat < 256 := sp.isLt
  rw [BitVec.toNat_add, show (1 : Byte).toNat = 1 from rfl]
  omega

/-- The byte `Pop` reads stands one above the stack pointer, as a number. -/
theorem stackAddr_succ {sp : Byte} (h : sp ≠ 0xFF) :
    stackAddr (sp + 1) = BitVec.ofNat 16 (0x0100 + (sp.toNat + 1)) := by
  rw [stackAddr_eq, sp_succ_toNat h]

/-- Restoring SP undoes a write of SP: `setSp` writes no other field. -/
theorem State.setSp_restore (s : State) (v : Byte) : { s.setSp v with sp := s.sp } = s := rfl

/-- Settles O8: `Pop` writes SP alone, and the incremented SP does not wrap away from 0xFF. -/
theorem popIncrementsThenReads : Obligations.PopIncrementsThenReads := by
  intro s
  refine ⟨pop_fatal, fun hsp => ⟨s.setSp (s.sp + 1), ?_, ?_, ?_⟩⟩
  · rw [← stackAddr_succ hsp]
    exact pop_ok hsp
  · rw [State.setSp_sp]
    exact sp_succ_toNat hsp
  · exact State.setSp_restore s _

end Sys2Proof.Machine
end

section
/-! PROOF. A run that has ended takes no step (40_step.md R128). -/

namespace Sys2Proof.Machine

/-- A step of a run that has ended is the fault that names how it ended. -/
theorem step_of_ended {s : State} (h : s.run ≠ .running) : step s = .fault (.runEnded s.run) := by
  unfold step
  cases hrun : s.run with
  | running => exact absurd hrun h
  | stopped r => rfl
  | fatal k addr byte => rfl

/-- Settles O51: a fault is not a next state. -/
theorem endedRunsTakeNoStep : Obligations.EndedRunsTakeNoStep := by
  intro s t h
  rw [step_of_ended h]
  exact nofun

end Sys2Proof.Machine
end

section
/-! PROOF. The page check compares the high nibbles of two addresses (41_addressing.md R156). -/

namespace Sys2Proof.Machine

/-- Bits 15 to 12 of an address, as a number. -/
theorem highNibble_toNat (w : Word) : (w.extractLsb' 12 4).toNat = w.toNat / 4096 := by
  have hlt : w.toNat / 4096 < 16 := by have := w.isLt; omega
  rw [BitVec.extractLsb'_toNat, Nat.shiftRight_eq_div_pow]
  exact Nat.mod_eq_of_lt hlt

/-- Two addresses agree in bits 15 to 12 exactly when they lie in the same block of 4096 bytes. -/
theorem highNibble_eq_iff (base ea : Word) :
    base.extractLsb' 12 4 = ea.extractLsb' 12 4 ↔ base.toNat / 4096 = ea.toNat / 4096 := by
  rw [← BitVec.toNat_inj, highNibble_toNat, highNibble_toNat]

/-- The penalty of R156, from the addresses as numbers. -/
theorem cross_eq (base ea : Word) :
    cross base ea = if base.toNat / 4096 = ea.toNat / 4096 then 0 else 1 := by
  simp only [cross, ne_eq, highNibble_eq_iff, ite_not]

/-- Settles O13: the high nibble is the address divided by 4096; the rule's two examples are then numbers. -/
theorem crossComparesHighNibbles : Obligations.CrossComparesHighNibbles :=
  ⟨cross_eq, cross_eq 0x0FFF 0x1000, cross_eq 0x10FF 0x1100⟩

end Sys2Proof.Machine
end

section
/-! PROOF. What an instruction that transfers no control keeps (40_step.md R121, R124, R125): its rule changes the core alone
and moves no PC, so the accounting around it makes it advance. -/

namespace Sys2Proof.Machine

/-- A rule that went from `s` to `u` changed at most A, X, Y, SP, P, memory and the port: PC and everything the profiler,
the run loop and the host own are kept. -/
structure CoreUpdate (s u : State) : Prop where
  pc : u.pc = s.pc
  run : u.run = s.run
  frames : u.frames = s.frames
  cfg : u.cfg = s.cfg
  hostQuit : u.hostQuit = s.hostQuit
  cyc : u.cyc = s.cyc
  rcyc : u.rcyc = s.rcyc
  shadow : u.shadow = s.shadow
  rcalls : u.rcalls = s.rcalls

/-- The state in which the rule of an instruction of `len` bytes runs: PC is past the instruction (R121). -/
def State.fetched (len : Nat) (s : State) : State := s.setPc (s.pc + BitVec.ofNat 16 len)

/-- An instruction whose rule changes the core alone advances, at the cost it completes with. -/
theorem CoreUpdate.advances {s u : State} {len : Nat} (h : CoreUpdate (s.fetched len) u) (cost : Nat) (c : CallTrace) :
    Advances s (complete s.pc cost c u) len cost where
  run := (complete_run ..).trans h.run
  frames := (complete_frames ..).trans h.frames
  cfg := (complete_cfg ..).trans h.cfg
  hostQuit := (complete_hostQuit ..).trans h.hostQuit
  cyc := by rw [complete_cyc, h.cyc]; rfl
  rcyc k := by rw [complete_rcyc_get, h.rcyc, complete_shadow]; rfl
  pc := (complete_pc ..).trans h.pc
  shadow := (complete_shadow ..).trans h.shadow
  rcalls := (complete_rcalls ..).trans h.rcalls

/-- An instruction that reads an operand completes: no effect of an operand raises a fatal error. -/
theorem readInstr_eq_next (op : Byte) (base : Nat) (o : Source) (f : Byte → State → State) (s : State) :
    readInstr op base o f s =
      .next (complete s.pc (base + o.adj s) .none (f (o.read s) (s.fetched o.length))) := by
  simp [readInstr, instruction, State.fetched]

/-- An implied instruction that cannot fail completes, at its base cycles. -/
theorem impliedInstr_eq_next (op : Byte) (base : Nat) (f : State → State) (s : State) :
    impliedInstr op base f s = .next (complete s.pc base .none (f (s.fetched 1))) := rfl

/-- Z and N are those of `v` where P was given by `SetZN(v)` (10_state.md R34). -/
theorem znOf_of_p_eq_setZN {v : Byte} {s t : State} (h : t.p = setZN v s.p) : ZNOf v s t := by
  have hflag (f : Flag) : t.flag f = getFlag f (setZN v s.p) := congrArg (getFlag f) h
  refine ⟨?_, ?_, fun f hf => ?_⟩
  · rw [hflag, getFlag_setZN]; rfl
  · rw [hflag, getFlag_setZN]; rfl
  · obtain ⟨hz, hn⟩ : f ≠ .z ∧ f ≠ .n := by simpa using hf
    rw [hflag, getFlag_setZN, if_neg hn, if_neg hz, State.flag]

end Sys2Proof.Machine
end

section
/-! PROOF. Loads and the transfers to A, X and Y: the new value of a register with Z and N from it (42_load_store_transfer.md
R170 to R172, R177 to R181). -/

namespace Sys2Proof.Machine

/-- The state after an instruction of `len` bytes that gives the register `r` the value `v` and sets Z and N from it. -/
def State.loaded (r : Reg) (v : Byte) (len cost : Nat) (s : State) : State :=
  complete s.pc cost .none (loadReg r v (s.fetched len))

/-- `R <- v; SetZN(v)` (10_state.md R34) changes the core alone. -/
theorem loadReg_coreUpdate (r : Reg) (v : Byte) (s : State) : CoreUpdate s (loadReg r v s) := by
  constructor <;> simp [loadReg]

theorem State.loaded_advances (r : Reg) (v : Byte) (len cost : Nat) (s : State) :
    Advances s (s.loaded r v len cost) len cost :=
  (loadReg_coreUpdate r v (s.fetched len)).advances cost .none

@[simp] theorem State.loaded_reg (r q : Reg) (v : Byte) (len cost : Nat) (s : State) :
    (s.loaded r v len cost).reg q = if q = r then v else s.reg q := by
  simp [State.loaded, loadReg, State.fetched]

@[simp] theorem State.loaded_p (r : Reg) (v : Byte) (len cost : Nat) (s : State) :
    (s.loaded r v len cost).p = setZN v s.p := by
  simp [State.loaded, loadReg, State.fetched]

@[simp] theorem State.loaded_sp (r : Reg) (v : Byte) (len cost : Nat) (s : State) :
    (s.loaded r v len cost).sp = s.sp := by
  simp [State.loaded, loadReg, State.fetched]

@[simp] theorem memRead_loaded (r : Reg) (v : Byte) (len cost : Nat) (s : State) (k : Word) :
    memRead (s.loaded r v len cost) k = memRead s k := by
  simp [State.loaded, loadReg, State.fetched]

/-- The whole effect of a load: the register holds the value, Z and N are its, and nothing else of the core changes. -/
theorem State.loaded_effect (r : Reg) (v : Byte) (len cost : Nat) (s : State) :
    let t := s.loaded r v len cost
    Advances s t len cost ∧ t.reg r = v ∧ ZNOf v s t ∧ RegsKept [r] s t ∧ t.sp = s.sp ∧ MemKept [] s t := by
  refine ⟨s.loaded_advances r v len cost, ?_, znOf_of_p_eq_setZN (s.loaded_p ..), fun q hq => ?_, s.loaded_sp ..,
    fun k _ => memRead_loaded ..⟩
  · rw [State.loaded_reg, if_pos rfl]
  · rw [State.loaded_reg, if_neg (mt List.mem_singleton.mpr hq)]

/-- The instruction of a form has the form's opcode byte and length, and runs as the read instruction with the effect `e` on
the form's operand. -/
structure ReadForm.Runs (f : ReadForm) (e : Byte → State → State) : Prop where
  opcode : (encode f.instr).head? = some f.op
  length : f.src.length = (encode f.instr).length
  exec_eq (s : State) : exec f.instr s = readInstr f.op f.base f.src e s

theorem ldaForms_run {v : Byte} {a : Word} {f : ReadForm} (h : f ∈ ldaForms v a) : f.Runs (loadReg .a) := by
  simp only [ldaForms, List.mem_cons, List.not_mem_nil, or_false] at h
  obtain rfl | rfl | rfl | rfl | rfl | rfl | rfl | rfl | rfl := h <;> exact ⟨rfl, rfl, fun _ => rfl⟩

theorem ldxForms_run {v : Byte} {a : Word} {f : ReadForm} (h : f ∈ ldxForms v a) : f.Runs (loadReg .x) := by
  simp only [ldxForms, List.mem_cons, List.not_mem_nil, or_false] at h
  obtain rfl | rfl | rfl | rfl | rfl := h <;> exact ⟨rfl, rfl, fun _ => rfl⟩

theorem ldyForms_run {v : Byte} {a : Word} {f : ReadForm} (h : f ∈ ldyForms v a) : f.Runs (loadReg .y) := by
  simp only [ldyForms, List.mem_cons, List.not_mem_nil, or_false] at h
  obtain rfl | rfl | rfl | rfl | rfl := h <;> exact ⟨rfl, rfl, fun _ => rfl⟩

/-- Settles O22: every form of LDA, LDX and LDY runs as a read instruction whose effect is the load of its register. -/
theorem loadsWriteRegisterWithZN : Obligations.LoadsWriteRegisterWithZN := by
  intro v a s f r hf
  have hrun : f.Runs (loadReg r) := by
    obtain ⟨hlda, rfl⟩ | ⟨hldx, rfl⟩ | ⟨hldy, rfl⟩ := hf
    · exact ldaForms_run hlda
    · exact ldxForms_run hldx
    · exact ldyForms_run hldy
  exact ⟨hrun.opcode, hrun.length, s.loaded r (f.src.read s) f.src.length (f.base + f.src.adj s), _,
    (hrun.exec_eq s).trans (readInstr_eq_next ..), s.loaded_effect ..⟩

/-- Settles O24: each transfer is an implied instruction of 2 cycles that loads its destination with its source. -/
theorem transfersWriteRegisterWithZN : Obligations.TransfersWriteRegisterWithZN := by
  intro s i op r v h
  obtain ⟨hbyte, hexec⟩ : encode i = [op] ∧ exec i s = impliedInstr op 2 (loadReg r v) s := by
    simp only [List.mem_cons, Prod.mk.injEq, List.not_mem_nil, or_false] at h
    obtain ⟨rfl, rfl, rfl, rfl⟩ | ⟨rfl, rfl, rfl, rfl⟩ | ⟨rfl, rfl, rfl, rfl⟩ | ⟨rfl, rfl, rfl, rfl⟩ |
      ⟨rfl, rfl, rfl, rfl⟩ := h
    all_goals exact ⟨rfl, rfl⟩
  exact ⟨hbyte, s.loaded r v 1 2, 2, hexec.trans (impliedInstr_eq_next ..), s.loaded_effect ..⟩

end Sys2Proof.Machine
end

section
/-! PROOF. TXS writes SP and no flag (42_load_store_transfer.md R182). -/

namespace Sys2Proof.Machine

/-- A write of SP changes the core alone. -/
theorem setSp_coreUpdate (v : Byte) (s : State) : CoreUpdate s (s.setSp v) := by
  constructor <;> rfl

/-- Settles O25: TXS is an implied instruction whose rule is one write of SP. -/
theorem txsWritesSpAndNoFlag : Obligations.TxsWritesSpAndNoFlag := by
  refine ⟨rfl, fun s => ⟨complete s.pc 2 .none ((s.fetched 1).setSp s.x), 2, ?_, ?_, ?_, ?_, fun q _ => ?_, fun k _ => ?_⟩⟩
  · exact impliedInstr_eq_next 0x9A 2 (fun s1 => s1.setSp s1.x) s
  · exact (setSp_coreUpdate s.x (s.fetched 1)).advances 2 .none
  all_goals simp [State.fetched]

end Sys2Proof.Machine
end

section
/-! PROOF. `AddCore` (43_alu.md R200): the overflow bit, first as the sign bits of its operands and its result. -/

namespace Sys2Proof.Machine

/-- The sign bit of the low byte of `AddCore` is bit 7 of the nine-bit sum. -/
theorem addCore_result_getLsbD_seven (a n : Byte) (c : Bool) :
    (addCore a n c).result.getLsbD 7 = (a.toNat + n.toNat + c.toNat).testBit 7 :=
  BitVec.getLsbD_ofNat 8 _ 7

/-- V of `AddCore` from three sign bits: the result differs there from both operands. -/
theorem addCore_overflow (a n : Byte) (c : Bool) :
    (addCore a n c).overflow =
      (((addCore a n c).result.getLsbD 7 ^^ a.getLsbD 7) && ((addCore a n c).result.getLsbD 7 ^^ n.getLsbD 7)) := by
  simp [addCore]

/-- Masking with 0x80 tests bit 7. -/
theorem and_0x80_ne_zero (k : Nat) : decide (k &&& 0x80 ≠ 0) = k.testBit 7 := by
  have hmask : k &&& 0x80 = (k.testBit 7).toNat * 2 ^ 7 := Nat.and_two_pow k 7
  rw [hmask]
  cases k.testBit 7 <;> rfl

/-- The rule's XOR formula on the sum, before it is cut to a byte, is V. -/
theorem addCore_overflow_eq_xor_formula (a n : Byte) (c : Bool) :
    (addCore a n c).overflow =
      decide (((a.toNat + n.toNat + c.toNat) ^^^ a.toNat) &&& ((a.toNat + n.toNat + c.toNat) ^^^ n.toNat) &&& 0x80 ≠ 0) := by
  rw [and_0x80_ne_zero, Nat.testBit_and, Nat.testBit_xor, Nat.testBit_xor, addCore_overflow,
    addCore_result_getLsbD_seven]
  rfl

/-- V is set exactly when the operands agree in their sign bit and the result does not. -/
theorem addCore_overflow_iff (a n : Byte) (c : Bool) :
    (addCore a n c).overflow = true ↔
      a.getLsbD 7 = n.getLsbD 7 ∧ (addCore a n c).result.getLsbD 7 ≠ a.getLsbD 7 := by
  rw [addCore_overflow]
  generalize a.getLsbD 7 = x, n.getLsbD 7 = y, (addCore a n c).result.getLsbD 7 = r
  revert x y r
  decide

/-- Settles O14: the sum and the carry are the definition's, and both forms of V follow from the three sign bits. -/
theorem addCoreIsTheNineBitSum : Obligations.AddCoreIsTheNineBitSum := fun a n c =>
  ⟨rfl, BitVec.toNat_ofNat .., rfl, addCore_overflow_eq_xor_formula a n c, addCore_overflow_iff a n c⟩

end Sys2Proof.Machine
end

section
/-! PROOF. Compares and BIT (43_alu.md R208 to R212): the instructions that write P and nothing else of the core. -/

namespace Sys2Proof.Machine

/-- The state after an instruction of `len` bytes that writes P alone. -/
def State.statusWritten (p : Byte) (len cost : Nat) (s : State) : State :=
  complete s.pc cost .none ((s.fetched len).setP p)

/-- A write of P changes the core alone. -/
theorem setP_coreUpdate (p : Byte) (s : State) : CoreUpdate s (s.setP p) := by
  constructor <;> rfl

theorem State.statusWritten_advances (p : Byte) (len cost : Nat) (s : State) :
    Advances s (s.statusWritten p len cost) len cost :=
  (setP_coreUpdate p (s.fetched len)).advances cost .none

@[simp] theorem State.statusWritten_flag (p : Byte) (len cost : Nat) (s : State) (f : Flag) :
    (s.statusWritten p len cost).flag f = getFlag f p := by
  simp [State.statusWritten]

@[simp] theorem State.statusWritten_reg (p : Byte) (len cost : Nat) (s : State) (q : Reg) :
    (s.statusWritten p len cost).reg q = s.reg q := by
  simp [State.statusWritten, State.fetched]

@[simp] theorem State.statusWritten_sp (p : Byte) (len cost : Nat) (s : State) :
    (s.statusWritten p len cost).sp = s.sp := by
  simp [State.statusWritten, State.fetched]

@[simp] theorem memRead_statusWritten (p : Byte) (len cost : Nat) (s : State) (k : Word) :
    memRead (s.statusWritten p len cost) k = memRead s k := by
  simp [State.statusWritten, State.fetched]

/-- What a write of P keeps: the general registers, SP and memory. -/
theorem State.statusWritten_frame (p : Byte) (len cost : Nat) (s : State) :
    let t := s.statusWritten p len cost
    RegsKept [] s t ∧ t.sp = s.sp ∧ MemKept [] s t :=
  ⟨fun q _ => s.statusWritten_reg p len cost q, s.statusWritten_sp p len cost,
    fun k _ => memRead_statusWritten p len cost s k⟩

/-- A form whose effect writes P alone completes with that P. -/
theorem ReadForm.Runs.exec_eq_statusWritten {f : ReadForm} {e : Byte → State → State} (h : f.Runs e) {s : State} {p : Byte}
    (he : e (f.src.read s) (s.fetched f.src.length) = (s.fetched f.src.length).setP p) :
    exec f.instr s = .next (s.statusWritten p f.src.length (f.base + f.src.adj s)) := by
  rw [h.exec_eq, readInstr_eq_next, he, State.statusWritten]

/-! ### CMP, CPX and CPY -/

/-- A difference of bytes as a number modulo 256. -/
theorem sub_eq_ofNat (r m : Byte) : r - m = BitVec.ofNat 8 (r.toNat + 256 - m.toNat) := by
  have hm : m.toNat < 256 := m.isLt
  rw [BitVec.sub_def]
  congr 1
  omega

theorem compareEffect_fetched (r : Reg) (m : Byte) (len : Nat) (s : State) :
    compareEffect r m (s.fetched len) = (s.fetched len).setP (compareFlags (s.reg r) m s.p) := by
  simp [compareEffect, State.fetched]

theorem cmpForms_run {v : Byte} {a : Word} {f : ReadForm} (h : f ∈ cmpForms v a) : f.Runs (compareEffect .a) := by
  simp only [cmpForms, List.mem_cons, List.not_mem_nil, or_false] at h
  obtain rfl | rfl | rfl | rfl | rfl | rfl | rfl | rfl | rfl := h <;> exact ⟨rfl, rfl, fun _ => rfl⟩

theorem cpxForms_run {v : Byte} {a : Word} {f : ReadForm} (h : f ∈ cpxForms v a) : f.Runs (compareEffect .x) := by
  simp only [cpxForms, List.mem_cons, List.not_mem_nil, or_false] at h
  obtain rfl | rfl | rfl := h <;> exact ⟨rfl, rfl, fun _ => rfl⟩

theorem cpyForms_run {v : Byte} {a : Word} {f : ReadForm} (h : f ∈ cpyForms v a) : f.Runs (compareEffect .y) := by
  simp only [cpyForms, List.mem_cons, List.not_mem_nil, or_false] at h
  obtain rfl | rfl | rfl := h <;> exact ⟨rfl, rfl, fun _ => rfl⟩

/-- The flags of `Compare(r, m)` (R208) in the words of the statement: C and N from the bytes as numbers. -/
theorem statusWritten_compareFlags (r m : Byte) (len cost : Nat) (s : State) :
    let t := s.statusWritten (compareFlags r m s.p) len cost
    t.flag .c = decide (r.toNat ≥ m.toNat) ∧ t.flag .z = decide (r = m) ∧
      t.flag .n = (BitVec.ofNat 8 (r.toNat + 256 - m.toNat)).getLsbD 7 ∧ FlagsKept [.c, .z, .n] s t := by
  simp only [FlagsKept, State.statusWritten_flag, getFlag_compareFlags]
  refine ⟨rfl, rfl, ?_, fun f hf => ?_⟩
  · rw [← sub_eq_ofNat]
    rfl
  · obtain ⟨hc, hz, hn⟩ : f ≠ .c ∧ f ≠ .z ∧ f ≠ .n := by simpa using hf
    rw [if_neg hn, if_neg hz, if_neg hc, State.flag]

/-- Settles O20: every form of CMP, CPX and CPY runs as a read instruction that writes the compare's P and nothing else. -/
theorem compareSetsCZN : Obligations.CompareSetsCZN := by
  intro v a s f r hf
  obtain ⟨q, hrun, rfl⟩ : ∃ q, f.Runs (compareEffect q) ∧ r = s.reg q := by
    obtain ⟨hcmp, rfl⟩ | ⟨hcpx, rfl⟩ | ⟨hcpy, rfl⟩ := hf
    · exact ⟨.a, cmpForms_run hcmp, rfl⟩
    · exact ⟨.x, cpxForms_run hcpx, rfl⟩
    · exact ⟨.y, cpyForms_run hcpy, rfl⟩
  obtain ⟨hc, hz, hn, hkept⟩ :=
    statusWritten_compareFlags (s.reg q) (f.src.read s) f.src.length (f.base + f.src.adj s) s
  exact ⟨hrun.opcode, hrun.length, _, _, hrun.exec_eq_statusWritten (compareEffect_fetched ..),
    s.statusWritten_advances .., hc, hz, hn, hkept, s.statusWritten_frame ..⟩

/-! ### BIT -/

theorem bitEffect_fetched (m : Byte) (len : Nat) (s : State) :
    bitEffect m (s.fetched len) = (s.fetched len).setP (bitFlags s.a m s.p) := rfl

theorem bitForms_run {v : Byte} {a : Word} {f : ReadForm} (h : f ∈ bitForms v a) : f.Runs bitEffect := by
  simp only [bitForms, List.mem_cons, List.not_mem_nil, or_false] at h
  obtain rfl | rfl := h <;> exact ⟨rfl, rfl, fun _ => rfl⟩

/-- The flags of BIT (R212) once P is written. -/
theorem statusWritten_bitFlags (m : Byte) (len cost : Nat) (s : State) :
    let t := s.statusWritten (bitFlags s.a m s.p) len cost
    t.flag .z = decide (s.a &&& m = 0) ∧ t.flag .n = m.getLsbD 7 ∧ t.flag .v = m.getLsbD 6 ∧
      FlagsKept [.z, .n, .v] s t := by
  simp only [FlagsKept, State.statusWritten_flag, getFlag_bitFlags]
  refine ⟨rfl, rfl, rfl, fun f hf => ?_⟩
  obtain ⟨hz, hn, hv⟩ : f ≠ .z ∧ f ≠ .n ∧ f ≠ .v := by simpa using hf
  rw [if_neg hv, if_neg hn, if_neg hz, State.flag]

/-- Settles O21: both forms of BIT run as a read instruction that writes BIT's P and nothing else. -/
theorem bitTestsOperandBits : Obligations.BitTestsOperandBits := by
  intro v a s f hf
  have hrun := bitForms_run hf
  obtain ⟨hz, hn, hv, hkept⟩ := statusWritten_bitFlags (f.src.read s) f.src.length (f.base + f.src.adj s) s
  exact ⟨hrun.opcode, hrun.length, _, _, hrun.exec_eq_statusWritten (bitEffect_fetched ..),
    s.statusWritten_advances .., hz, hn, hv, hkept, s.statusWritten_frame ..⟩

end Sys2Proof.Machine
end

section
/-! PROOF. INX, INY, DEX, DEY, INA and DEA (44_shift_incdec.md R237 to R242): each loads its register with the register one more
or one less modulo 256. -/

namespace Sys2Proof.Machine

/-- One more, modulo 256. -/
theorem byte_add_one_toNat (v : Byte) : (v + 1).toNat = (v.toNat + 1) % 256 := BitVec.toNat_add v 1

/-- One less, modulo 256, is 255 more. -/
theorem byte_sub_one_toNat (v : Byte) : (v - 1).toNat = (v.toNat + 255) % 256 := by
  rw [BitVec.toNat_sub, Nat.add_comm]
  rfl

/-- Settles O28: each of the six completes as a load of its register, at 2 cycles, with the value one more or one less. -/
theorem registerIncrementsWrap : Obligations.RegisterIncrementsWrap := by
  intro s i op r n h
  obtain ⟨hbyte, w, hexec, hw⟩ : encode i = [op] ∧
      ∃ w, exec i s = .next (s.loaded r w 1 2) ∧ w.toNat = ((s.reg r).toNat + n) % 256 := by
    simp only [List.mem_cons, Prod.mk.injEq, List.not_mem_nil, or_false] at h
    obtain ⟨rfl, rfl, rfl, rfl⟩ | ⟨rfl, rfl, rfl, rfl⟩ | ⟨rfl, rfl, rfl, rfl⟩ | ⟨rfl, rfl, rfl, rfl⟩ |
      ⟨rfl, rfl, rfl, rfl⟩ | ⟨rfl, rfl, rfl, rfl⟩ := h
    · exact ⟨rfl, s.x + 1, rfl, byte_add_one_toNat s.x⟩
    · exact ⟨rfl, s.y + 1, rfl, byte_add_one_toNat s.y⟩
    · exact ⟨rfl, s.x - 1, rfl, byte_sub_one_toNat s.x⟩
    · exact ⟨rfl, s.y - 1, rfl, byte_sub_one_toNat s.y⟩
    · exact ⟨rfl, s.a + 1, rfl, byte_add_one_toNat s.a⟩
    · exact ⟨rfl, s.a - 1, rfl, byte_sub_one_toNat s.a⟩
  obtain ⟨hadv, hreg, hzn, hframe⟩ := s.loaded_effect r w 1 2
  exact ⟨hbyte, s.loaded r w 1 2, 2, hexec, hadv, (congrArg BitVec.toNat hreg).trans hw, by rwa [hreg], hframe⟩

end Sys2Proof.Machine
end

section
/-! PROOF. JMP (45_control_transfer.md R270): the accounting of an instruction that transfers control, and the jump to the
effective address. -/

namespace Sys2Proof.Machine

/-- The accounting (40_step.md R125) of an instruction whose rule went from `s` to `u` and kept what the accounting keeps or
adds to, wherever PC and the stacks went. -/
theorem complete_accounted {s u : State} (hrun : u.run = s.run) (hframes : u.frames = s.frames) (hcfg : u.cfg = s.cfg)
    (hquit : u.hostQuit = s.hostQuit) (hcyc : u.cyc = s.cyc) (hrcyc : u.rcyc = s.rcyc) (pc0 : Word) (cost : Nat)
    (c : CallTrace) : Accounted s (complete pc0 cost c u) cost where
  run := (complete_run ..).trans hrun
  frames := (complete_frames ..).trans hframes
  cfg := (complete_cfg ..).trans hcfg
  hostQuit := (complete_hostQuit ..).trans hquit
  cyc := by rw [complete_cyc, hcyc]
  rcyc k := by rw [complete_rcyc_get, hrcyc, complete_shadow]

/-- The state after a jump to `target`. -/
def State.jumped (target : Word) (cost : Nat) (s : State) : State := complete s.pc cost .none (s.setPc target)

/-- A jump completes at the effective address of its form. -/
theorem jumpInstr_eq_next (op : Byte) (base : Nat) (m : AddrForm) (s : State) :
    jumpInstr op base m s = .next (s.jumped (m.ea s) (base + m.adj s)) := by
  have hea : m.ea (s.setPc (s.pc + BitVec.ofNat 16 m.length)) = m.ea s := m.ea_setPc s _
  rw [jumpInstr, instruction, hea]
  rfl

/-- The whole effect of a jump: PC is the target, the cost is accounted, and nothing else changes but the port. -/
theorem State.jumped_effect (target : Word) (cost : Nat) (s : State) :
    let t := s.jumped target cost
    t.pc = target ∧ Accounted s t cost ∧ t.shadow = s.shadow ∧ t.rcalls = s.rcalls ∧ t.p = s.p ∧ t.sp = s.sp ∧
      RegsKept [] s t ∧ MemKept [] s t := by
  have hacc : Accounted s (complete s.pc cost .none (s.setPc target)) cost :=
    complete_accounted (s := s) (u := s.setPc target) rfl rfl rfl rfl rfl rfl ..
  exact ⟨complete_pc .., hacc, complete_shadow .., complete_rcalls .., complete_p .., complete_sp ..,
    fun q _ => (complete_reg ..).trans (s.reg_setPc target q), fun _ _ => complete_memRead ..⟩

/-- Settles O30: both forms run as a jump to the effective address of their mode. -/
theorem jmpTakesTheTarget : Obligations.JmpTakesTheTarget := by
  intro a s i op m h
  obtain ⟨hop, hlen, base, hexec⟩ : (encode i).head? = some op ∧ (encode i).length = 3 ∧
      ∃ base, exec i s = jumpInstr op base m s := by
    simp only [List.mem_cons, Prod.mk.injEq, List.not_mem_nil, or_false] at h
    obtain ⟨rfl, rfl, rfl⟩ | ⟨rfl, rfl, rfl⟩ := h
    · exact ⟨rfl, rfl, 3, rfl⟩
    · exact ⟨rfl, rfl, 5, rfl⟩
  exact ⟨hop, hlen, s.jumped (m.ea s) (base + m.adj s), base + m.adj s, hexec.trans (jumpInstr_eq_next ..),
    s.jumped_effect ..⟩

end Sys2Proof.Machine
end

section
/-! PROOF. BRK (45_control_transfer.md R274), from what any raised fatal error leaves (60_exceptions.md R350, R351). -/

namespace Sys2Proof.Machine

/-- A rule that changes nothing changes the core alone. -/
theorem CoreUpdate.refl (s : State) : CoreUpdate s s := by
  constructor <;> rfl

/-- A fatal error raised where the rule reached `u`, with A, X, Y and P as at the start, is one of the instruction at the PC
of `s`. -/
theorem CoreUpdate.raises {s u : State} {len : Nat} (h : CoreUpdate (s.fetched len) u) (hregs : RegsKept [] s u)
    (hflags : FlagsKept [] s u) (kind : FatalKind) (op : Byte) : Raises s (raiseFatal kind s.pc op u) kind op where
  run := raiseFatal_run ..
  event := List.getLast?_concat
  cyc := h.cyc
  rcyc := h.rcyc
  rcalls := h.rcalls
  shadow := h.shadow
  regs q hq := (raiseFatal_reg ..).trans (hregs q hq)
  flags := hflags
  frames := h.frames
  cfg := h.cfg
  hostQuit := h.hostQuit

/-- BRK raises UnimplementedOpcode where it was fetched: its rule changes nothing before. -/
theorem exec_brk (s : State) : exec .brk s = .next (raiseFatal .unimplementedOpcode s.pc 0x00 (s.fetched 1)) := rfl

/-- Settles O34: BRK's fetch keeps A, X, Y, P, SP and memory, and raising the error keeps them. -/
theorem brkRaisesUnimplementedOpcode : Obligations.BrkRaisesUnimplementedOpcode := by
  refine ⟨rfl, fun s => ⟨_, exec_brk s, ?_, rfl, rfl, rfl⟩⟩
  have hregs : RegsKept [] s (s.fetched 1) := fun q _ => s.reg_setPc _ q
  have hflags : FlagsKept [] s (s.fetched 1) := fun f _ => s.flag_setPc _ f
  exact (CoreUpdate.refl (s.fetched 1)).raises hregs hflags .unimplementedOpcode 0x00

end Sys2Proof.Machine
end

section
/-! PROOF. What an implied stack instruction answers (40_step.md R120): it completes where its rule goes on, and raises the
rule's fatal error where it does not. -/

namespace Sys2Proof.Machine

/-- Two rules that change the core alone, one after the other, change the core alone. -/
theorem CoreUpdate.trans {s u w : State} (h : CoreUpdate s u) (h' : CoreUpdate u w) : CoreUpdate s w where
  pc := h'.pc.trans h.pc
  run := h'.run.trans h.run
  frames := h'.frames.trans h.frames
  cfg := h'.cfg.trans h.cfg
  hostQuit := h'.hostQuit.trans h.hostQuit
  cyc := h'.cyc.trans h.cyc
  rcyc := h'.rcyc.trans h.rcyc
  shadow := h'.shadow.trans h.shadow
  rcalls := h'.rcalls.trans h.rcalls

/-- `MemWrite` (20_memory.md R62) changes the core alone. -/
theorem memWrite_coreUpdate (pc0 k : Word) (v : Byte) (s : State) : CoreUpdate s (memWrite pc0 k v s) := by
  constructor <;> rfl

/-- A stack instruction whose rule goes on completes, at its base cycles. -/
theorem stackInstr_ok {op : Byte} {base : Nat} {f : Word → State → Eff Unit} {s u : State}
    (h : f s.pc (s.fetched 1) = .ok () u) : stackInstr op base f s = .next (complete s.pc base .none u) := by
  unfold State.fetched at h
  simp only [stackInstr, instruction, h, Eff.bind_ok, Nat.add_zero]

/-- A stack instruction whose rule raises a fatal error raises it where the rule left off. -/
theorem stackInstr_fatal {op : Byte} {base : Nat} {f : Word → State → Eff Unit} {s u : State} {kind : FatalKind}
    (h : f s.pc (s.fetched 1) = .fatal kind u) : stackInstr op base f s = .next (raiseFatal kind s.pc op u) := by
  unfold State.fetched at h
  simp only [stackInstr, instruction, h, Eff.bind_fatal]

/-- A stack instruction whose rule fails before it writes anything raises the rule's error and leaves memory unchanged. -/
theorem stackInstr_raises {op : Byte} {base : Nat} {f : Word → State → Eff Unit} {s : State} {kind : FatalKind}
    (h : f s.pc (s.fetched 1) = .fatal kind (s.fetched 1)) :
    ∃ t, stackInstr op base f s = .next t ∧ Raises s t kind op ∧ t.mem = s.mem := by
  have hregs : RegsKept [] s (s.fetched 1) := fun q _ => s.reg_setPc _ q
  have hflags : FlagsKept [] s (s.fetched 1) := fun f _ => s.flag_setPc _ f
  exact ⟨_, stackInstr_fatal h, (CoreUpdate.refl (s.fetched 1)).raises hregs hflags kind op, rfl⟩

end Sys2Proof.Machine
end

section
/-! PROOF. PHA, PHX and PHY (46_stack_flags_misc.md R290, R292, R293): a push of a register. -/

namespace Sys2Proof.Machine

/-- Away from 0x00 the stack pointer decrements without a wrap. -/
theorem sp_pred_toNat {sp : Byte} (h : sp ≠ 0x00) : (sp - 1).toNat = sp.toNat - 1 := by
  have hne : sp.toNat ≠ 0 := fun e => h (BitVec.eq_of_toNat_eq e)
  have hlt : sp.toNat < 256 := sp.isLt
  rw [byte_sub_one_toNat]
  omega

/-- The state after an instruction of one byte that pushed `v`. -/
def State.pushed (v : Byte) (cost : Nat) (s : State) : State :=
  complete s.pc cost .none ((memWrite s.pc (stackAddr s.sp) v (s.fetched 1)).setSp (s.sp - 1))

/-- The rule of a push of `R` (10_state.md R27) goes on, with SP not 0x00 before. -/
theorem stackInstr_push (op : Byte) (base : Nat) (r : Reg) {s : State} (h : s.sp ≠ 0x00) :
    stackInstr op base (fun pc0 s1 => push pc0 (s1.reg r) s1) s = .next (s.pushed (s.reg r) base) := by
  have hreg : (s.fetched 1).reg r = s.reg r := s.reg_setPc _ r
  have hpush : push s.pc ((s.fetched 1).reg r) (s.fetched 1) =
      .ok () ((memWrite s.pc (stackAddr s.sp) (s.reg r) (s.fetched 1)).setSp (s.sp - 1)) := by
    rw [hreg]
    exact push_ok h
  exact stackInstr_ok hpush

theorem State.pushed_advances (v : Byte) (cost : Nat) (s : State) : Advances s (s.pushed v cost) 1 cost :=
  ((memWrite_coreUpdate ..).trans (setSp_coreUpdate ..)).advances cost .none

@[simp] theorem State.pushed_sp (v : Byte) (cost : Nat) (s : State) : (s.pushed v cost).sp = s.sp - 1 := by
  simp [State.pushed]

@[simp] theorem State.pushed_p (v : Byte) (cost : Nat) (s : State) : (s.pushed v cost).p = s.p := by
  simp [State.pushed, State.fetched]

@[simp] theorem State.pushed_reg (v : Byte) (cost : Nat) (s : State) (q : Reg) : (s.pushed v cost).reg q = s.reg q := by
  simp [State.pushed, State.fetched]

@[simp] theorem memRead_pushed (v : Byte) (cost : Nat) (s : State) (k : Word) :
    memRead (s.pushed v cost) k = if k = stackAddr s.sp then v else memRead s k := by
  simp [State.pushed, State.fetched]

/-- The whole effect of a push: the byte stands at the address of the stack pointer, SP is one lower, and nothing else of
the core changes. -/
theorem State.pushed_effect (v : Byte) (cost : Nat) {s : State} (h : s.sp ≠ 0x00) :
    let t := s.pushed v cost
    Advances s t 1 cost ∧ memRead t (stackAddr s.sp) = v ∧ MemKept [stackAddr s.sp] s t ∧
      t.sp.toNat = s.sp.toNat - 1 ∧ t.p = s.p ∧ RegsKept [] s t := by
  refine ⟨s.pushed_advances v cost, ?_, fun k hk => ?_, ?_, s.pushed_p v cost, fun q _ => s.pushed_reg v cost q⟩
  · rw [memRead_pushed, if_pos rfl]
  · rw [memRead_pushed, if_neg (mt List.mem_singleton.mpr hk)]
  · rw [State.pushed_sp, sp_pred_toNat h]

/-- Settles O35: each of the three is the push of its register, whose rule fails before the write at SP = 0x00. -/
theorem pushesStoreTheirRegister : Obligations.PushesStoreTheirRegister := by
  intro s i op v h
  obtain ⟨hbyte, r, rfl, hexec⟩ : encode i = [op] ∧
      ∃ r, v = s.reg r ∧ exec i s = stackInstr op 3 (fun pc0 s1 => push pc0 (s1.reg r) s1) s := by
    simp only [List.mem_cons, Prod.mk.injEq, List.not_mem_nil, or_false] at h
    obtain ⟨rfl, rfl, rfl⟩ | ⟨rfl, rfl, rfl⟩ | ⟨rfl, rfl, rfl⟩ := h
    · exact ⟨rfl, .a, rfl, rfl⟩
    · exact ⟨rfl, .x, rfl, rfl⟩
    · exact ⟨rfl, .y, rfl, rfl⟩
  rw [← stackAddr_eq, hexec]
  exact ⟨hbyte, fun hsp => ⟨_, 3, stackInstr_push op 3 r hsp, State.pushed_effect (s.reg r) 3 hsp⟩,
    fun hsp => stackInstr_raises (push_fatal hsp)⟩

end Sys2Proof.Machine
end

section
/-! PROOF. PLA, PLX and PLY (46_stack_flags_misc.md R294, R296, R297): a load of a register with the popped byte. -/

namespace Sys2Proof.Machine

/-- The state after an instruction of one byte that popped a byte into the register `r`: a load from the raised SP. -/
def State.pulled (r : Reg) (cost : Nat) (s : State) : State :=
  (s.setSp (s.sp + 1)).loaded r (memRead s (stackAddr (s.sp + 1))) 1 cost

/-- The rule of PLA, PLX and PLY goes on, with SP not 0xFF before. -/
theorem pullReg_ok (r : Reg) {s : State} (h : s.sp ≠ 0xFF) :
    pullReg r s = .ok () (loadReg r (memRead s (stackAddr (s.sp + 1))) (s.setSp (s.sp + 1))) := by
  rw [pullReg, pop_ok h, Eff.bind_ok]

/-- The rule of PLA, PLX and PLY at SP = 0xFF. -/
theorem pullReg_fatal (r : Reg) {s : State} (h : s.sp = 0xFF) : pullReg r s = .fatal .stackUnderrun s := by
  rw [pullReg, pop_fatal h, Eff.bind_fatal]

/-- A pull completes, with SP not 0xFF before. -/
theorem stackInstr_pullReg (op : Byte) (base : Nat) (r : Reg) {s : State} (h : s.sp ≠ 0xFF) :
    stackInstr op base (fun _ => pullReg r) s = .next (s.pulled r base) :=
  stackInstr_ok (pullReg_ok r (s := s.fetched 1) h)

theorem State.pulled_advances (r : Reg) (cost : Nat) (s : State) : Advances s (s.pulled r cost) 1 cost :=
  ((setSp_coreUpdate (s.sp + 1) (s.fetched 1)).trans (loadReg_coreUpdate ..)).advances cost .none

/-- The whole effect of a pull: the register holds the byte one above the stack pointer, Z and N are its, SP is one higher,
and nothing else of the core changes. -/
theorem State.pulled_effect (r : Reg) (cost : Nat) {s : State} (h : s.sp ≠ 0xFF) :
    let t := s.pulled r cost
    Advances s t 1 cost ∧ t.reg r = memRead s (stackAddr (s.sp + 1)) ∧ ZNOf (t.reg r) s t ∧ RegsKept [r] s t ∧
      t.sp.toNat = s.sp.toNat + 1 ∧ MemKept [] s t := by
  obtain ⟨-, hreg, hzn, hregs, hsp, hmem⟩ :=
    (s.setSp (s.sp + 1)).loaded_effect r (memRead s (stackAddr (s.sp + 1))) 1 cost
  exact ⟨s.pulled_advances r cost, hreg, hreg.symm ▸ hzn, fun q hq => (hregs q hq).trans (s.reg_setSp _ q),
    (congrArg BitVec.toNat hsp).trans (sp_succ_toNat h), hmem⟩

/-- Settles O37: each of the three is the pull of its register, whose rule fails before SP changes at SP = 0xFF. -/
theorem pullsLoadTheirRegister : Obligations.PullsLoadTheirRegister := by
  intro s i op r h
  obtain ⟨hbyte, hexec⟩ : encode i = [op] ∧ exec i s = stackInstr op 4 (fun _ => pullReg r) s := by
    simp only [List.mem_cons, Prod.mk.injEq, List.not_mem_nil, or_false] at h
    obtain ⟨rfl, rfl, rfl⟩ | ⟨rfl, rfl, rfl⟩ | ⟨rfl, rfl, rfl⟩ := h
    all_goals exact ⟨rfl, rfl⟩
  rw [hexec]
  refine ⟨hbyte, fun hsp => ⟨_, 4, stackInstr_pullReg op 4 r hsp, ?_⟩,
    fun hsp => stackInstr_raises (pullReg_fatal r hsp)⟩
  rw [Nat.add_assoc, ← stackAddr_succ hsp]
  exact State.pulled_effect r 4 hsp

end Sys2Proof.Machine
end

section
/-! PROOF. The decode error of a step (30_encoding.md R97, 60_exceptions.md R352), from what stands before the fetch: the
instruction boundary and the pre-phase watch (40_step.md R127, R130, 47_tracer_profiler.md R328) write nothing a fetch
reads. -/

namespace Sys2Proof.Machine

/-- The quit signal writes RUN and the list of signals alone. -/
theorem pollQuit_eq_update (s : State) : ∃ r q, pollQuit s = { s with run := r, hostQuit := q } := by
  unfold pollQuit
  split
  · exact ⟨s.run, s.hostQuit, rfl⟩
  · exact ⟨_, _, rfl⟩

/-- The frame limit writes FRAMES and RUN alone. -/
theorem frameBoundary_eq_update (s : State) : ∃ n r, frameBoundary s = { s with frames := n, run := r } := by
  unfold frameBoundary
  split
  · split
    · exact ⟨_, _, rfl⟩
    · exact ⟨s.frames, s.run, rfl⟩
  · exact ⟨s.frames, s.run, rfl⟩

/-- An instruction boundary writes FRAMES, RUN and the list of signals, and empties the port. -/
theorem boundary_eq_update (s : State) :
    ∃ n r q, boundary s = { s with frames := n, run := r, hostQuit := q, port := [] } := by
  obtain ⟨r, q, hpoll⟩ := pollQuit_eq_update { s with port := [] }
  obtain ⟨n, r', hframe⟩ := frameBoundary_eq_update { s with run := r, hostQuit := q, port := [] }
  simp only [boundary, hpoll]
  cases r with
  | running => exact ⟨n, r', q, hframe⟩
  | stopped _ | fatal _ _ _ => exact ⟨s.frames, _, q, rfl⟩

/-- The state in which the opcode byte is fetched: after the boundary and the pre-phase watch. -/
def State.atFetch (s : State) : State := watch .pre (boundary s).pc (boundary s)

/-- Before the fetch a step writes FRAMES, RUN, the list of signals and the port alone. -/
theorem State.atFetch_eq_update (s : State) :
    ∃ n r q es, s.atFetch = { s with frames := n, run := r, hostQuit := q, port := es } := by
  obtain ⟨n, r, q, h⟩ := boundary_eq_update s
  rw [State.atFetch, h]
  exact ⟨n, r, q, _, rfl⟩

/-- The boundary and the pre-phase watch change nothing that the fetch reads. -/
theorem fetchInstr_atFetch (s : State) : fetchInstr s.atFetch = fetchInstr s := by
  obtain ⟨n, r, q, es, h⟩ := s.atFetch_eq_update
  rw [h]
  rfl

/-- A step whose boundary lets the run go on and whose fetch finds no instruction is the decode error. -/
theorem step_of_fetchInstr_none {s : State} (hrun : s.run = .running) (hgo : (boundary s).run = .running)
    (hfetch : fetchInstr s = none) : step s = .next (decodeError s.atFetch) := by
  have hnone : fetchInstr (watch .pre (boundary s).pc (boundary s)) = none := (fetchInstr_atFetch s).trans hfetch
  simp only [step, hrun, hgo, hnone, State.atFetch]

/-- Settles O50: the step is the decode error in the state of the fetch, which agrees with the step's start in every field
the statement names; the error is the last event emitted. -/
theorem stepRaisesDecodeError : Obligations.StepRaisesDecodeError := by
  intro s hrun hgo hdecode
  have hfetch : fetchInstr s = none := by rw [fetchInstr, hdecode, Decoded.instr?]
  obtain ⟨n, r, q, es, h⟩ := s.atFetch_eq_update
  refine ⟨_, step_of_fetchInstr_none hrun hgo hfetch, ?_⟩
  rw [h]
  have hregs : RegsKept [] s (decodeError { s with frames := n, run := r, hostQuit := q, port := es }) := fun
    | .a, _ | .x, _ | .y, _ => rfl
  exact ⟨rfl, rfl, rfl, rfl, hregs, rfl, rfl, List.getLast?_concat⟩

end Sys2Proof.Machine
end

section
/-! PROOF. Encoding and decoding (30_encoding.md R90 to R101), from two facts: what each row of the opcode map makes is
encoded with the row's opcode byte, and every instruction is made by the row of its opcode byte. -/

namespace Sys2Proof

open Machine

/-- A word of two bytes has them as its high and its low byte. -/
@[simp] theorem highByte_wordOf (hi lo : Byte) : highByte (wordOf hi lo) = hi :=
  BitVec.eq_of_toNat_eq (by rw [highByte_toNat, wordOf_toNat]; omega)

@[simp] theorem lowByte_wordOf (hi lo : Byte) : lowByte (wordOf hi lo) = lo :=
  BitVec.eq_of_toNat_eq (by rw [lowByte_toNat, wordOf_toNat]; omega)

/-- A row makes instructions of its own mode, encoded as its opcode byte and the operand bytes its mode has (R90, R96). -/
structure Row.Sound (r : Row) : Prop where
  mode (lo hi : Byte) : (r.make lo hi).mode = r.mode
  encode (lo hi : Byte) : encode (r.make lo hi) = r.opcode :: [lo, hi].take (operandLength r.mode)

theorem rows_sound (n : Nat) : ∀ r ∈ rowsAt n, r.Sound := by
  unfold rowsAt
  split
  all_goals simp only [List.forall_mem_cons, List.not_mem_nil, false_implies, implies_true, and_true]
  all_goals and_intros
  all_goals exact ⟨fun _ _ => rfl, fun _ _ => by simp [encode, operandLength]⟩

/-- A lookup finds a sound row with the byte looked up. -/
theorem findRow_some {op : Byte} {r : Row} (h : findRow op = some r) : r.opcode = op ∧ r.Sound :=
  ⟨by simpa using List.find?_some h, rows_sound _ r (List.mem_of_find?_eq_some h)⟩

/-- Every instruction is made by the row of its opcode byte, from its own operand bytes (R94). -/
theorem exists_row (i : Instr) : ∃ op r, (encode i).head? = some op ∧ findRow op = some r ∧
    r.make ((encode i).getD 1 0) ((encode i).getD 2 0) = i := by
  cases i
  all_goals
    refine ⟨_, _, rfl, rfl, ?_⟩
    simp [encode]

/-- The decoder's entry for a row: it is taken out only if the mode does not exist under ZPI_OPS (R98). -/
theorem decodeOpcode_eq_some {zpiOps : Bool} {op : Byte} {r : Row} :
    decodeOpcode zpiOps op = some r ↔ findRow op = some r ∧ (zpiOps || r.mode != .zeroPageIndirect) = true := by
  unfold decodeOpcode
  cases findRow op with
  | none => simp
  | some q =>
    cases zpiOps with
    | true => simp
    | false =>
      by_cases h : q.mode = .zeroPageIndirect
      · simp only [h, Option.some.injEq]
        constructor
        · simp
        · rintro ⟨rfl, hr⟩
          simp [h] at hr
      · simp only [Bool.not_false, beq_iff_eq, h, Bool.and_eq_true, and_false, if_false, Option.some.injEq]
        exact ⟨fun e => ⟨e, by simpa [← e] using h⟩, And.left⟩

theorem operandLength_le_two (m : Mode) : operandLength m ≤ 2 := by cases m <;> decide

/-- The decoder reads as many operand bytes as the row's mode has (R101). -/
theorem decode_eq_instr {zpiOps : Bool} {bytes rest : List Byte} {i : Instr} :
    decode zpiOps bytes = .instr i rest ↔ ∃ op r ops, decodeOpcode zpiOps op = some r ∧
      bytes = op :: ops ++ rest ∧ ops.length = operandLength r.mode ∧ i = r.make (ops.getD 0 0) (ops.getD 1 0) := by
  constructor
  · intro h
    cases bytes with
    | nil => cases h
    | cons op tail =>
      simp only [decode] at h
      cases hrow : decodeOpcode zpiOps op with
      | none => simp [hrow] at h
      | some r =>
        simp only [hrow] at h
        split at h
        · next hlen =>
          obtain ⟨rfl, rfl⟩ := Decoded.instr.inj h
          exact ⟨op, r, [], hrow, rfl, hlen.symm, rfl⟩
        · next lo _ hlen =>
          obtain ⟨rfl, rfl⟩ := Decoded.instr.inj h
          exact ⟨op, r, [lo], hrow, rfl, hlen.symm, rfl⟩
        · next lo hi _ hlen =>
          obtain ⟨rfl, rfl⟩ := Decoded.instr.inj h
          exact ⟨op, r, [lo, hi], hrow, rfl, hlen.symm, rfl⟩
        · cases h
  · rintro ⟨op, r, ops, hrow, rfl, hlen, rfl⟩
    match ops, hlen with
    | [], hlen | [_], hlen | [_, _], hlen => simp [decode, hrow, ← hlen]
    | _ :: _ :: _ :: _, hlen => exact absurd (hlen ▸ operandLength_le_two r.mode) (by simp)

/-- Settles O1: the row of the opcode byte makes the instruction from its own operand bytes, which are the ones encoded. -/
theorem decodeInvertsEncode : Obligations.DecodeInvertsEncode := by
  intro zpiOps i rest hwf
  obtain ⟨op, r, -, hrow, hi⟩ := exists_row i
  obtain ⟨rfl, hr⟩ := findRow_some hrow
  have hmode : r.mode = i.mode := by rw [← hi, hr.mode]
  have henc := hr.encode ((encode i).getD 1 0) ((encode i).getD 2 0)
  rw [hi] at henc
  refine decode_eq_instr.mpr ⟨r.opcode, r, (encode i).tail, decodeOpcode_eq_some.mpr ⟨hrow, ?_⟩, ?_, ?_, ?_⟩
  · rwa [hmode]
  · rw [henc]
    rfl
  · rw [henc, List.tail_cons, List.length_take]
    cases r.mode <;> rfl
  · simpa [List.getD_eq_getElem?_getD] using hi.symm

/-- Settles O2: the row of the byte read makes an instruction encoded as that byte and the operand bytes read. -/
theorem decodeAcceptsOnlyEncodings : Obligations.DecodeAcceptsOnlyEncodings := by
  intro zpiOps bytes rest i h
  obtain ⟨op, r, ops, hentry, rfl, hlen, rfl⟩ := decode_eq_instr.mp h
  obtain ⟨hrow, hwf⟩ := decodeOpcode_eq_some.mp hentry
  obtain ⟨rfl, hr⟩ := findRow_some hrow
  refine ⟨?_, by rwa [Instr.wellFormed, hr.mode]⟩
  rw [hr.encode, ← hlen]
  match ops, hlen with
  | [], _ | [_], _ | [_, _], _ => rfl
  | _ :: _ :: _ :: _, hlen => exact absurd (hlen ▸ operandLength_le_two r.mode) (by simp)

/-- An opcode byte is refused exactly when the decoder has no entry for it, whatever follows. -/
theorem decode_eq_undefinedOpcode {zpiOps : Bool} {op : Byte} {rest : List Byte} :
    decode zpiOps (op :: rest) = .undefinedOpcode op ↔ decodeOpcode zpiOps op = none := by
  simp only [decode]
  cases decodeOpcode zpiOps op with
  | none => simp
  | some r =>
    dsimp only
    split <;> simp

/-- Settles O4: the decoder's entry for each of the 256 bytes, under each setting of ZPI_OPS. -/
theorem undefinedBytesHaveNoEntry : Obligations.UndefinedBytesHaveNoEntry := by
  intro zpiOps op rest
  rw [decode_eq_undefinedOpcode, ← Option.isNone_iff_eq_none]
  revert zpiOps op
  decide

/-- Settles O3: the decoder runs on each of the nine words. -/
theorem writtenWordsDecode : Obligations.WrittenWordsDecode :=
  ⟨rfl, rfl, rfl, rfl, rfl, rfl, rfl, rfl, rfl⟩

end Sys2Proof
end

section
/-! PROOF. The rule of every instruction, as a function of the state: an instruction is the common part of the step (40_step.md
R120) around one of twelve kinds of rule, with its mnemonic, the addresses it stores to and its call event. -/

namespace Sys2Proof.Machine

/-- The call event of an instruction (47_tracer_profiler.md R332): JSR and RTS alone have one. -/
def callTraceOf : Instr → CallTrace
  | .jsr a => .jsr a
  | .rts => .rts
  | _ => .none

/-- An instruction that stores nothing and neither calls nor returns. -/
structure Plain (i : Instr) : Prop where
  stores (s : State) : storedAddrs i s = []
  call : callTraceOf i = .none

/-- An instruction that stores one byte, at `k`, and neither calls nor returns. -/
structure StoresAt (i : Instr) (k : State → Word) : Prop where
  stores (s : State) : storedAddrs i s = [k s]
  call : callTraceOf i = .none

/-- The mnemonics whose rule gives a register a new value with Z and N from it (10_state.md R21, R22, R23). -/
def loadersOf : Reg → List String
  | .a => ["LDA", "PLA", "TXA", "TYA", "INA", "DEA"]
  | .x => ["LDX", "PLX", "TAX", "TSX", "INX", "DEX"]
  | .y => ["LDY", "PLY", "TAY", "INY", "DEY"]

/-- The mnemonics whose rule writes one flag to a constant (46_stack_flags_misc.md R298 to R304). -/
def flagWritersOf : Flag → List String
  | .c => ["CLC", "SEC"]
  | .i => ["CLI", "SEI"]
  | .d => ["CLD", "SED"]
  | .v => ["CLV"]
  | .z | .b | .u | .n => []

/-- The effects of an operand, by mnemonic. -/
inductive ReadRule : String → (Byte → State → State) → Prop
  | load {mn : String} (r : Reg) (h : mn ∈ loadersOf r) : ReadRule mn (loadReg r)
  | adc : ReadRule "ADC" adcEffect
  | sbc : ReadRule "SBC" sbcEffect
  | and : ReadRule "AND" andEffect
  | ora : ReadRule "ORA" oraEffect
  | eor : ReadRule "EOR" eorEffect
  | compare {mn : String} (r : Reg) (h : mn ∈ ["CMP", "CPX", "CPY"]) : ReadRule mn (compareEffect r)
  | bit : ReadRule "BIT" bitEffect

/-- The shifts and rotates, by mnemonic. -/
inductive ShiftRule : String → (Byte → Byte → Byte × Byte) → Prop
  | asl : ShiftRule "ASL" aslResult
  | lsr : ShiftRule "LSR" lsrResult
  | rol : ShiftRule "ROL" rolResult
  | ror : ShiftRule "ROR" rorResult

/-- The results of the read-modify-write instructions on memory, by mnemonic. -/
inductive ModifyRule : String → (Byte → Byte → Byte × Byte) → Prop
  | shift {mn : String} {f : Byte → Byte → Byte × Byte} (h : ShiftRule mn f) : ModifyRule mn f
  | inc : ModifyRule "INC" incResult
  | dec : ModifyRule "DEC" decResult

/-- The implied instructions that cannot fail, by mnemonic. -/
inductive ImpliedRule : String → (State → State) → Prop
  | load {mn : String} (r : Reg) {v : State → Byte} (hv : ByteSource v) (h : mn ∈ loadersOf r) :
    ImpliedRule mn (fun s => loadReg r (v s) s)
  | txs : ImpliedRule "TXS" (fun s => s.setSp s.x)
  | flag {mn : String} (f : Flag) (on : Bool) (h : mn ∈ flagWritersOf f) : ImpliedRule mn (fun s => s.setFlag f on)
  | nop : ImpliedRule "NOP" (fun s => s)

/-- The rules that pop, but RTS, by mnemonic. -/
inductive PullRule : String → (State → Eff Unit) → Prop
  | reg {mn : String} (r : Reg) (h : mn ∈ loadersOf r) (hp : mn ∈ ["PLA", "PLX", "PLY"]) : PullRule mn (pullReg r)
  | status : PullRule "PLP" pullStatus
  | rti : PullRule "RTI" pullStatusAndPc

/-- The rule of an instruction at `pc0`, with the largest adjustment it can add for a branch taken. -/
inductive Rule (i : Instr) : Nat → (Word → State → Eff Completion) → Prop
  | read (o : Source) {f : Byte → State → State} (h : ReadRule (mnemonicOf i) f) (hp : Plain i) :
    Rule i 0 (fun _ s => .ok {} (f (o.read s) s))
  | implied {f : State → State} (h : ImpliedRule (mnemonicOf i) f) (hp : Plain i) : Rule i 0 (fun _ s => .ok {} (f s))
  | shiftA {f : Byte → Byte → Byte × Byte} (h : ShiftRule (mnemonicOf i) f) (hp : Plain i) :
    Rule i 0 (fun _ s => .ok {} (s.setAP (f s.a s.p)))
  | store (m : AddrForm) {v : State → Byte} (hv : ByteSource v) (hs : StoresAt i m.ea) :
    Rule i 0 (fun pc0 s => .ok {} (memWrite pc0 (m.ea s) (v s) s))
  | modify (m : AddrForm) {f : Byte → Byte → Byte × Byte} (h : ModifyRule (mnemonicOf i) f) (hs : StoresAt i m.ea) :
    Rule i 0 (fun pc0 s => .ok {} ((memWrite pc0 (m.ea s) (f (memRead s (m.ea s)) s.p).1 s).setP
      (f (memRead s (m.ea s)) s.p).2))
  | push {v : State → Byte} (hv : ByteSource v) (h : mnemonicOf i ∈ ["PHA", "PHP", "PHX", "PHY"])
    (hs : StoresAt i fun s => stackAddr s.sp) :
    Rule i 0 (fun pc0 s => (push pc0 (v s) s).bind fun _ u => .ok {} u)
  | pull {f : State → Eff Unit} (h : PullRule (mnemonicOf i) f) (hp : Plain i) :
    Rule i 0 (fun _ s => (f s).bind fun _ u => .ok {} u)
  | branch {c : State → Bool} (r : Byte) (hc : BranchCond c) (hp : Plain i) : Rule i 2 (fun _ => branchEffect c r)
  | jump (m : AddrForm) (hp : Plain i) : Rule i 0 (fun _ s => .ok {} (s.setPc (m.ea s)))
  | jsr (a : Word) (hi : i = .jsr a) : Rule i 0 (fun pc0 => jsrEffect pc0 a)
  | rts (hi : i = .rts) : Rule i 0 (fun _ => rtsEffect)
  | brk (hi : i = .brk) : Rule i 0 (fun _ s => .fatal .unimplementedOpcode s)

/-- The instruction runs as the common part of the step around `rule`, at a cost of 2 to 8 cycles. -/
def RunsAs (i : Instr) (rule : Word → State → Eff Completion) (extra : Nat) : Prop :=
  ∃ (base len : Nat) (adj : State → Nat), 2 ≤ base ∧ base + extra ≤ 7 ∧ (∀ s, adj s ≤ 1) ∧
    ∀ s, exec i s = instruction (opcodeOf i) base len (adj s) (rule s.pc) s

/-- The instruction has a rule and runs as it. -/
def HasRule (i : Instr) : Prop := ∃ extra rule, Rule i extra rule ∧ RunsAs i rule extra

section
variable {i : Instr} {base : Nat}

theorem HasRule.read {o : Source} {f : Byte → State → State} (hexec : ∀ s, exec i s = readInstr (opcodeOf i) base o f s)
    (h : ReadRule (mnemonicOf i) f) (hp : Plain i) (hb : 2 ≤ base ∧ base ≤ 7) : HasRule i :=
  ⟨0, _, .read o h hp, base, o.length, o.adj, hb.1, hb.2, o.adj_le, hexec⟩

theorem HasRule.implied {f : State → State} (hexec : ∀ s, exec i s = impliedInstr (opcodeOf i) base f s)
    (h : ImpliedRule (mnemonicOf i) f) (hp : Plain i) (hb : 2 ≤ base ∧ base ≤ 7) : HasRule i :=
  ⟨0, _, .implied h hp, base, 1, fun _ => 0, hb.1, hb.2, fun _ => Nat.zero_le 1, hexec⟩

theorem HasRule.shiftA {f : Byte → Byte → Byte × Byte} (hexec : ∀ s, exec i s = modifyInstr (opcodeOf i) base .acc f s)
    (h : ShiftRule (mnemonicOf i) f) (hp : Plain i) (hb : 2 ≤ base ∧ base ≤ 7) : HasRule i :=
  ⟨0, _, .shiftA h hp, base, 1, fun _ => 0, hb.1, hb.2, fun _ => Nat.zero_le 1, hexec⟩

theorem HasRule.store {m : AddrForm} {v : State → Byte} (hexec : ∀ s, exec i s = storeInstr (opcodeOf i) base m v s)
    (hv : ByteSource v) (hs : StoresAt i m.ea) (hb : 2 ≤ base ∧ base ≤ 7) : HasRule i :=
  ⟨0, _, .store m hv hs, base, m.length, m.adj, hb.1, hb.2, m.adj_le, hexec⟩

theorem HasRule.modify {m : AddrForm} {f : Byte → Byte → Byte × Byte}
    (hexec : ∀ s, exec i s = modifyInstr (opcodeOf i) base (.mem m) f s) (h : ModifyRule (mnemonicOf i) f)
    (hs : StoresAt i m.ea) (hb : 2 ≤ base ∧ base ≤ 7) : HasRule i :=
  ⟨0, _, .modify m h hs, base, m.length, m.adj, hb.1, hb.2, m.adj_le, hexec⟩

theorem HasRule.push {v : State → Byte}
    (hexec : ∀ s, exec i s = stackInstr (opcodeOf i) base (fun pc0 s => push pc0 (v s) s) s) (hv : ByteSource v)
    (h : mnemonicOf i ∈ ["PHA", "PHP", "PHX", "PHY"]) (hs : StoresAt i fun s => stackAddr s.sp)
    (hb : 2 ≤ base ∧ base ≤ 7) : HasRule i :=
  ⟨0, _, .push hv h hs, base, 1, fun _ => 0, hb.1, hb.2, fun _ => Nat.zero_le 1, hexec⟩

theorem HasRule.pull {f : State → Eff Unit} (hexec : ∀ s, exec i s = stackInstr (opcodeOf i) base (fun _ => f) s)
    (h : PullRule (mnemonicOf i) f) (hp : Plain i) (hb : 2 ≤ base ∧ base ≤ 7) : HasRule i :=
  ⟨0, _, .pull h hp, base, 1, fun _ => 0, hb.1, hb.2, fun _ => Nat.zero_le 1, hexec⟩

theorem HasRule.branch {c : State → Bool} {r : Byte} (hexec : ∀ s, exec i s = branchInstr (opcodeOf i) 2 c r s)
    (hc : BranchCond c) (hp : Plain i) : HasRule i :=
  ⟨2, _, .branch r hc hp, 2, 2, fun _ => 0, by decide, by decide, fun _ => Nat.zero_le 1, hexec⟩

theorem HasRule.jump {m : AddrForm} (hexec : ∀ s, exec i s = jumpInstr (opcodeOf i) base m s) (hp : Plain i)
    (hb : 2 ≤ base ∧ base ≤ 7) : HasRule i :=
  ⟨0, _, .jump m hp, base, m.length, m.adj, hb.1, hb.2, m.adj_le, hexec⟩

end

/-- Every instruction has a rule and runs as it. -/
theorem hasRule (i : Instr) : HasRule i := by
  cases i with
  | ldaImmediate | ldaZeroPage | ldaZeroPageX | ldaAbsolute | ldaAbsoluteX | ldaAbsoluteY | ldaIndexedIndirectX
  | ldaIndirectIndexedY | ldaZeroPageIndirect =>
    exact .read (fun _ => rfl) (.load (mn := "LDA") .a (by decide)) ⟨fun _ => rfl, rfl⟩ (by decide)
  | ldxImmediate | ldxZeroPage | ldxZeroPageY | ldxAbsolute | ldxAbsoluteY =>
    exact .read (fun _ => rfl) (.load (mn := "LDX") .x (by decide)) ⟨fun _ => rfl, rfl⟩ (by decide)
  | ldyImmediate | ldyZeroPage | ldyZeroPageX | ldyAbsolute | ldyAbsoluteX =>
    exact .read (fun _ => rfl) (.load (mn := "LDY") .y (by decide)) ⟨fun _ => rfl, rfl⟩ (by decide)
  | adcImmediate | adcZeroPage | adcZeroPageX | adcAbsolute | adcAbsoluteX | adcAbsoluteY | adcIndexedIndirectX
  | adcIndirectIndexedY | adcZeroPageIndirect => exact .read (fun _ => rfl) .adc ⟨fun _ => rfl, rfl⟩ (by decide)
  | sbcImmediate | sbcZeroPage | sbcZeroPageX | sbcAbsolute | sbcAbsoluteX | sbcAbsoluteY | sbcIndexedIndirectX
  | sbcIndirectIndexedY | sbcZeroPageIndirect => exact .read (fun _ => rfl) .sbc ⟨fun _ => rfl, rfl⟩ (by decide)
  | andImmediate | andZeroPage | andZeroPageX | andAbsolute | andAbsoluteX | andAbsoluteY | andIndexedIndirectX
  | andIndirectIndexedY | andZeroPageIndirect => exact .read (fun _ => rfl) .and ⟨fun _ => rfl, rfl⟩ (by decide)
  | oraImmediate | oraZeroPage | oraZeroPageX | oraAbsolute | oraAbsoluteX | oraAbsoluteY | oraIndexedIndirectX
  | oraIndirectIndexedY | oraZeroPageIndirect => exact .read (fun _ => rfl) .ora ⟨fun _ => rfl, rfl⟩ (by decide)
  | eorImmediate | eorZeroPage | eorZeroPageX | eorAbsolute | eorAbsoluteX | eorAbsoluteY | eorIndexedIndirectX
  | eorIndirectIndexedY | eorZeroPageIndirect => exact .read (fun _ => rfl) .eor ⟨fun _ => rfl, rfl⟩ (by decide)
  | cmpImmediate | cmpZeroPage | cmpZeroPageX | cmpAbsolute | cmpAbsoluteX | cmpAbsoluteY | cmpIndexedIndirectX
  | cmpIndirectIndexedY | cmpZeroPageIndirect =>
    exact .read (fun _ => rfl) (.compare (mn := "CMP") .a (by decide)) ⟨fun _ => rfl, rfl⟩ (by decide)
  | cpxImmediate | cpxZeroPage | cpxAbsolute =>
    exact .read (fun _ => rfl) (.compare (mn := "CPX") .x (by decide)) ⟨fun _ => rfl, rfl⟩ (by decide)
  | cpyImmediate | cpyZeroPage | cpyAbsolute =>
    exact .read (fun _ => rfl) (.compare (mn := "CPY") .y (by decide)) ⟨fun _ => rfl, rfl⟩ (by decide)
  | bitZeroPage | bitAbsolute => exact .read (fun _ => rfl) .bit ⟨fun _ => rfl, rfl⟩ (by decide)
  | staZeroPage | staZeroPageX | staAbsolute | staAbsoluteX | staAbsoluteY | staIndexedIndirectX | staIndirectIndexedY
  | staZeroPageIndirect => exact .store (fun _ => rfl) .a ⟨fun _ => rfl, rfl⟩ (by decide)
  | stxZeroPage | stxZeroPageY | stxAbsolute => exact .store (fun _ => rfl) .x ⟨fun _ => rfl, rfl⟩ (by decide)
  | styZeroPage | styZeroPageX | styAbsolute => exact .store (fun _ => rfl) .y ⟨fun _ => rfl, rfl⟩ (by decide)
  | stzZeroPage | stzZeroPageX | stzAbsolute | stzAbsoluteX =>
    exact .store (fun _ => rfl) (.const 0x00) ⟨fun _ => rfl, rfl⟩ (by decide)
  | aslAccumulator => exact .shiftA (fun _ => rfl) .asl ⟨fun _ => rfl, rfl⟩ (by decide)
  | lsrAccumulator => exact .shiftA (fun _ => rfl) .lsr ⟨fun _ => rfl, rfl⟩ (by decide)
  | rolAccumulator => exact .shiftA (fun _ => rfl) .rol ⟨fun _ => rfl, rfl⟩ (by decide)
  | rorAccumulator => exact .shiftA (fun _ => rfl) .ror ⟨fun _ => rfl, rfl⟩ (by decide)
  | aslZeroPage | aslZeroPageX | aslAbsolute | aslAbsoluteX =>
    exact .modify (fun _ => rfl) (.shift .asl) ⟨fun _ => rfl, rfl⟩ (by decide)
  | lsrZeroPage | lsrZeroPageX | lsrAbsolute | lsrAbsoluteX =>
    exact .modify (fun _ => rfl) (.shift .lsr) ⟨fun _ => rfl, rfl⟩ (by decide)
  | rolZeroPage | rolZeroPageX | rolAbsolute | rolAbsoluteX =>
    exact .modify (fun _ => rfl) (.shift .rol) ⟨fun _ => rfl, rfl⟩ (by decide)
  | rorZeroPage | rorZeroPageX | rorAbsolute | rorAbsoluteX =>
    exact .modify (fun _ => rfl) (.shift .ror) ⟨fun _ => rfl, rfl⟩ (by decide)
  | incZeroPage | incZeroPageX | incAbsolute | incAbsoluteX =>
    exact .modify (fun _ => rfl) .inc ⟨fun _ => rfl, rfl⟩ (by decide)
  | decZeroPage | decZeroPageX | decAbsolute | decAbsoluteX =>
    exact .modify (fun _ => rfl) .dec ⟨fun _ => rfl, rfl⟩ (by decide)
  | tax => exact .implied (fun _ => rfl) (.load (mn := "TAX") .x .a (by decide)) ⟨fun _ => rfl, rfl⟩ (by decide)
  | tay => exact .implied (fun _ => rfl) (.load (mn := "TAY") .y .a (by decide)) ⟨fun _ => rfl, rfl⟩ (by decide)
  | txa => exact .implied (fun _ => rfl) (.load (mn := "TXA") .a .x (by decide)) ⟨fun _ => rfl, rfl⟩ (by decide)
  | tya => exact .implied (fun _ => rfl) (.load (mn := "TYA") .a .y (by decide)) ⟨fun _ => rfl, rfl⟩ (by decide)
  | tsx => exact .implied (fun _ => rfl) (.load (mn := "TSX") .x .sp (by decide)) ⟨fun _ => rfl, rfl⟩ (by decide)
  | inx => exact .implied (fun _ => rfl) (.load (mn := "INX") .x (.succ .x) (by decide)) ⟨fun _ => rfl, rfl⟩ (by decide)
  | iny => exact .implied (fun _ => rfl) (.load (mn := "INY") .y (.succ .y) (by decide)) ⟨fun _ => rfl, rfl⟩ (by decide)
  | dex => exact .implied (fun _ => rfl) (.load (mn := "DEX") .x (.pred .x) (by decide)) ⟨fun _ => rfl, rfl⟩ (by decide)
  | dey => exact .implied (fun _ => rfl) (.load (mn := "DEY") .y (.pred .y) (by decide)) ⟨fun _ => rfl, rfl⟩ (by decide)
  | ina => exact .implied (fun _ => rfl) (.load (mn := "INA") .a (.succ .a) (by decide)) ⟨fun _ => rfl, rfl⟩ (by decide)
  | dea => exact .implied (fun _ => rfl) (.load (mn := "DEA") .a (.pred .a) (by decide)) ⟨fun _ => rfl, rfl⟩ (by decide)
  | txs => exact .implied (fun _ => rfl) .txs ⟨fun _ => rfl, rfl⟩ (by decide)
  | clc => exact .implied (fun _ => rfl) (.flag (mn := "CLC") .c false (by decide)) ⟨fun _ => rfl, rfl⟩ (by decide)
  | sec => exact .implied (fun _ => rfl) (.flag (mn := "SEC") .c true (by decide)) ⟨fun _ => rfl, rfl⟩ (by decide)
  | cli => exact .implied (fun _ => rfl) (.flag (mn := "CLI") .i false (by decide)) ⟨fun _ => rfl, rfl⟩ (by decide)
  | sei => exact .implied (fun _ => rfl) (.flag (mn := "SEI") .i true (by decide)) ⟨fun _ => rfl, rfl⟩ (by decide)
  | cld => exact .implied (fun _ => rfl) (.flag (mn := "CLD") .d false (by decide)) ⟨fun _ => rfl, rfl⟩ (by decide)
  | sed => exact .implied (fun _ => rfl) (.flag (mn := "SED") .d true (by decide)) ⟨fun _ => rfl, rfl⟩ (by decide)
  | clv => exact .implied (fun _ => rfl) (.flag (mn := "CLV") .v false (by decide)) ⟨fun _ => rfl, rfl⟩ (by decide)
  | nop => exact .implied (fun _ => rfl) .nop ⟨fun _ => rfl, rfl⟩ (by decide)
  | pha => exact .push (fun _ => rfl) .a (List.mem_of_getElem? (i := 0) rfl) ⟨fun _ => rfl, rfl⟩ (by decide)
  | php => exact .push (fun _ => rfl) .php (List.mem_of_getElem? (i := 1) rfl) ⟨fun _ => rfl, rfl⟩ (by decide)
  | phx => exact .push (fun _ => rfl) .x (List.mem_of_getElem? (i := 2) rfl) ⟨fun _ => rfl, rfl⟩ (by decide)
  | phy => exact .push (fun _ => rfl) .y (List.mem_of_getElem? (i := 3) rfl) ⟨fun _ => rfl, rfl⟩ (by decide)
  | pla => exact .pull (fun _ => rfl) (.reg (mn := "PLA") .a (by decide) (by decide)) ⟨fun _ => rfl, rfl⟩ (by decide)
  | plx => exact .pull (fun _ => rfl) (.reg (mn := "PLX") .x (by decide) (by decide)) ⟨fun _ => rfl, rfl⟩ (by decide)
  | ply => exact .pull (fun _ => rfl) (.reg (mn := "PLY") .y (by decide) (by decide)) ⟨fun _ => rfl, rfl⟩ (by decide)
  | plp => exact .pull (fun _ => rfl) .status ⟨fun _ => rfl, rfl⟩ (by decide)
  | rti => exact .pull (fun _ => rfl) .rti ⟨fun _ => rfl, rfl⟩ (by decide)
  | bcc => exact .branch (fun _ => rfl) (.clear .c) ⟨fun _ => rfl, rfl⟩
  | bcs => exact .branch (fun _ => rfl) (.set .c) ⟨fun _ => rfl, rfl⟩
  | beq => exact .branch (fun _ => rfl) (.set .z) ⟨fun _ => rfl, rfl⟩
  | bmi => exact .branch (fun _ => rfl) (.set .n) ⟨fun _ => rfl, rfl⟩
  | bne => exact .branch (fun _ => rfl) (.clear .z) ⟨fun _ => rfl, rfl⟩
  | bpl => exact .branch (fun _ => rfl) (.clear .n) ⟨fun _ => rfl, rfl⟩
  | bvc => exact .branch (fun _ => rfl) (.clear .v) ⟨fun _ => rfl, rfl⟩
  | bvs => exact .branch (fun _ => rfl) (.set .v) ⟨fun _ => rfl, rfl⟩
  | bra => exact .branch (fun _ => rfl) .always ⟨fun _ => rfl, rfl⟩
  | jmpAbsolute | jmpIndirect => exact .jump (fun _ => rfl) ⟨fun _ => rfl, rfl⟩ (by decide)
  | jsr a => exact ⟨0, _, .jsr a rfl, 6, 3, fun _ => 0, by decide, by decide, fun _ => Nat.zero_le 1, fun _ => rfl⟩
  | rts => exact ⟨0, _, .rts rfl, 6, 1, fun _ => 0, by decide, by decide, fun _ => Nat.zero_le 1, fun _ => rfl⟩
  | brk => exact ⟨0, _, .brk rfl, 7, 1, fun _ => 0, by decide, by decide, fun _ => Nat.zero_le 1, fun _ => rfl⟩

end Sys2Proof.Machine
end

section
/-! PROOF. What the rule of an instruction can do (40_step.md R120, R123), said once for the twelve kinds of rule: the fields it
keeps, the bytes it stores, the events it emits, and that it keeps the invariant. -/

namespace Sys2Proof.Machine

/-- A rule that went from `s` to `u` kept what only the accounting, the run loop and the host write. -/
structure ObserversKept (s u : State) : Prop where
  run : u.run = s.run
  frames : u.frames = s.frames
  cfg : u.cfg = s.cfg
  hostQuit : u.hostQuit = s.hostQuit
  cyc : u.cyc = s.cyc
  rcyc : u.rcyc = s.rcyc

/-- A rule that went from `s` to `u` changed at most the registers, SP, P and PC, and cleared no set bit 5. -/
def RegistersStep (s u : State) : Prop :=
  (∃ a x y sp p pc, u = { s with a := a, x := x, y := y, sp := sp, p := p, pc := pc }) ∧
    (s.flag .u = true → u.flag .u = true)

/-! ### The rules that store nothing -/

theorem RegistersStep.refl (s : State) : RegistersStep s s := ⟨⟨s.a, s.x, s.y, s.sp, s.p, s.pc, rfl⟩, id⟩

theorem RegistersStep.trans {s u w : State} (h : RegistersStep s u) (h' : RegistersStep u w) : RegistersStep s w := by
  obtain ⟨⟨a, x, y, sp, p, pc, rfl⟩, hu⟩ := h
  obtain ⟨⟨a', x', y', sp', p', pc', rfl⟩, hu'⟩ := h'
  exact ⟨⟨a', x', y', sp', p', pc', rfl⟩, hu' ∘ hu⟩

theorem RegistersStep.setReg (r : Reg) (v : Byte) (s : State) : RegistersStep s (s.setReg r v) := by
  refine ⟨?_, fun h => by rwa [State.flag_setReg]⟩
  cases r
  · exact ⟨v, s.x, s.y, s.sp, s.p, s.pc, rfl⟩
  · exact ⟨s.a, v, s.y, s.sp, s.p, s.pc, rfl⟩
  · exact ⟨s.a, s.x, v, s.sp, s.p, s.pc, rfl⟩

theorem RegistersStep.setSp (v : Byte) (s : State) : RegistersStep s (s.setSp v) :=
  ⟨⟨s.a, s.x, s.y, v, s.p, s.pc, rfl⟩, id⟩

theorem RegistersStep.setPc (w : Word) (s : State) : RegistersStep s (s.setPc w) :=
  ⟨⟨s.a, s.x, s.y, s.sp, s.p, w, rfl⟩, id⟩

theorem RegistersStep.setP {p : Byte} {s : State} (h : s.flag .u = true → getFlag .u p = true) :
    RegistersStep s (s.setP p) :=
  ⟨⟨s.a, s.x, s.y, s.sp, p, s.pc, rfl⟩, h⟩

theorem RegistersStep.setP_of_eq {p : Byte} {s : State} (h : getFlag .u p = getFlag .u s.p) : RegistersStep s (s.setP p) :=
  .setP fun hu => h.trans hu

theorem loadReg_registersStep (r : Reg) (v : Byte) (s : State) : RegistersStep s (loadReg r v s) :=
  (RegistersStep.setReg r v s).trans (.setP_of_eq (by rw [State.setReg_p]; exact getFlag_setZN ..))

theorem setAP_registersStep {q : Byte × Byte} {s : State} (h : getFlag .u q.2 = getFlag .u s.p) :
    RegistersStep s (s.setAP q) :=
  (RegistersStep.setReg .a q.1 s).trans (.setP_of_eq h)

/-- The flags after ADC and SBC (43_alu.md R203, R204): the four they write, and the four they keep. -/
theorem getFlag_arithmetic (g : Flag) (r : Byte) (v c : Bool) (p : Byte) :
    getFlag g (setZN r (putFlag .v v (putFlag .c c p))) =
      if g = .n then r.getLsbD 7 else if g = .z then decide (r = 0) else if g = .v then v else if g = .c then c else
        getFlag g p := by
  rw [getFlag_setZN, getFlag_putFlag, getFlag_putFlag]

theorem ShiftRule.eq_shifted {mn : String} {f : Byte → Byte → Byte × Byte} (h : ShiftRule mn f) (v p : Byte) :
    ∃ r out, f v p = shifted r out p := by
  cases h <;> exact ⟨_, _, rfl⟩

theorem ModifyRule.getFlag_u {mn : String} {f : Byte → Byte → Byte × Byte} (h : ModifyRule mn f) (v p : Byte) :
    getFlag .u (f v p).2 = getFlag .u p := by
  cases h with
  | shift h =>
    obtain ⟨r, out, e⟩ := h.eq_shifted v p
    simp [e, getFlag_shifted]
  | inc => simp [incResult, getFlag_setZN]
  | dec => simp [decResult, getFlag_setZN]

theorem ReadRule.registersStep {mn : String} {f : Byte → State → State} (h : ReadRule mn f) (m : Byte) (s : State) :
    RegistersStep s (f m s) := by
  cases h with
  | load r => exact loadReg_registersStep r m s
  | adc => exact setAP_registersStep (getFlag_arithmetic ..)
  | sbc => exact setAP_registersStep (getFlag_arithmetic ..)
  | and | ora | eor => exact loadReg_registersStep ..
  | compare r => exact .setP_of_eq (getFlag_compareFlags ..)
  | bit => exact .setP_of_eq (getFlag_bitFlags ..)

theorem flagWritersOf_u {mn : String} {f : Flag} (h : mn ∈ flagWritersOf f) : f ≠ .u := by
  rintro rfl
  cases h

theorem ImpliedRule.registersStep {mn : String} {f : State → State} (h : ImpliedRule mn f) (s : State) :
    RegistersStep s (f s) := by
  cases h with
  | load r hv h => exact loadReg_registersStep ..
  | txs => exact .setSp ..
  | flag f on h =>
    exact .setP_of_eq (by rw [getFlag_putFlag, if_neg (flagWritersOf_u h).symm])
  | nop => exact .refl s

/-- What a pop answers: a byte and one more SP, or its error in the same state. -/
theorem pop_cases (s : State) : (∃ v, pop s = .ok v (s.setSp (s.sp + 1))) ∨ pop s = .fatal .stackUnderrun s := by
  by_cases h : s.sp = 0xFF
  · exact .inr (pop_fatal h)
  · exact .inl ⟨_, pop_ok h⟩

/-- A rule that pops changes registers alone, and its only error is StackUnderrun with A, X, Y and P kept. -/
theorem PullRule.cases {mn : String} {f : State → Eff Unit} (h : PullRule mn f) (s : State) :
    (∃ u, f s = .ok () u ∧ RegistersStep s u) ∨ ∃ sp, f s = .fatal .stackUnderrun (s.setSp sp) := by
  obtain ⟨v, e⟩ | e := pop_cases s
  · cases h with
    | reg r => exact .inl ⟨_, by rw [pullReg, e, Eff.bind_ok], (RegistersStep.setSp ..).trans (loadReg_registersStep ..)⟩
    | status => exact .inl ⟨_, by rw [pullStatus, e, Eff.bind_ok], (RegistersStep.setSp ..).trans (.setP fun _ => getFlag_or_bit5 .u v)⟩
    | rti =>
      simp only [pullStatusAndPc, e, Eff.bind_ok]
      obtain ⟨lo, e1⟩ | e1 := pop_cases (s.setSp (s.sp + 1))
      · simp only [e1, Eff.bind_ok]
        obtain ⟨hi, e2⟩ | e2 := pop_cases ((s.setSp (s.sp + 1)).setSp ((s.setSp (s.sp + 1)).sp + 1))
        · simp only [e2, Eff.bind_ok]
          exact .inl ⟨_, rfl, (RegistersStep.setSp ..).trans ((RegistersStep.setP fun _ => getFlag_or_bit5 .u v).trans (.setPc ..))⟩
        · simp only [e2, Eff.bind_fatal]
          exact .inr ⟨_, rfl⟩
      · simp only [e1, Eff.bind_fatal]
        exact .inr ⟨_, rfl⟩
  · cases h with
    | reg r => exact .inr ⟨s.sp, by rw [pullReg, e, Eff.bind_fatal]; rfl⟩
    | status => exact .inr ⟨s.sp, by rw [pullStatus, e, Eff.bind_fatal]; rfl⟩
    | rti => exact .inr ⟨s.sp, by rw [pullStatusAndPc, e, Eff.bind_fatal]; rfl⟩

/-! ### What a rule reaches -/

/-- What the rule of the instruction `i` leaves in `u`, whether it goes on or raises a fatal error: it kept what the observers
own, JSR and RTS alone touched the profiler's stack and JSR its counters, only bytes it stores to changed, and the
invariant is kept. -/
structure Reached (i : Instr) (s u : State) : Prop extends ObserversKept s u where
  rcalls : (∀ a, i ≠ .jsr a) → u.rcalls = s.rcalls
  shadow : (∀ a, i ≠ .jsr a) → i ≠ .rts → u.shadow = s.shadow
  full : s.cfg.shadowDepth ≤ s.shadow.length → i ≠ .rts → u.shadow = s.shadow
  mem : MemKept (storedAddrs i s) s u
  inv : s.Inv → u.Inv

theorem Reached.refl (i : Instr) (s : State) : Reached i s s where
  run := rfl
  frames := rfl
  cfg := rfl
  hostQuit := rfl
  cyc := rfl
  rcyc := rfl
  rcalls _ := rfl
  shadow _ _ := rfl
  full _ _ := rfl
  mem _ _ := rfl
  inv := id

/-- A further change of registers. -/
theorem Reached.registers {i : Instr} {s u w : State} (h : Reached i s u) (hw : RegistersStep u w) : Reached i s w := by
  obtain ⟨⟨a, x, y, sp, p, pc, rfl⟩, hbit5⟩ := hw
  exact { h with inv := fun hs => { h.inv hs with bit5 := hbit5 (h.inv hs).bit5 } }

/-- A further store, to one of the instruction's addresses. -/
theorem Reached.memWrite {i : Instr} {s u : State} (h : Reached i s u) {k : Word} (hk : k ∈ storedAddrs i s) (pc0 : Word)
    (v : Byte) : Reached i s (memWrite pc0 k v u) where
  run := h.run
  frames := h.frames
  cfg := h.cfg
  hostQuit := h.hostQuit
  cyc := h.cyc
  rcyc := h.rcyc
  rcalls := h.rcalls
  shadow := h.shadow
  full := h.full
  mem j hj := by rw [memRead_memWrite, if_neg (by rintro rfl; exact hj hk), h.mem j hj]
  inv hs := { h.inv hs with mem := memWrite_wf pc0 k v u (h.inv hs).mem }

/-- The write hooks of the instruction at `pc0` (20_memory.md R70), each with the screen event of R334 if it causes one. -/
def storeHooks (i : Instr) (pc0 : Word) (s u : State) : List Event :=
  (storedAddrs i s).flatMap fun k =>
    .write k (memRead s k) (memRead u k) pc0 s.cyc :: screenEvents s.cfg k (memRead s k) (memRead u k) s.cyc

theorem RegistersStep.port {s u : State} (h : RegistersStep s u) : u.port = s.port := by
  obtain ⟨⟨a, x, y, sp, p, pc, rfl⟩, -⟩ := h
  rfl

theorem RegistersStep.memRead {s u : State} (h : RegistersStep s u) (k : Word) : memRead u k = memRead s k := by
  obtain ⟨⟨a, x, y, sp, p, pc, rfl⟩, -⟩ := h
  rfl

/-- What a rule that goes on has done. -/
structure Completes (i : Instr) (pc0 : Word) (s u : State) (d : Completion) (extra : Nat) : Prop where
  reached : Reached i s u
  port : u.port = s.port ++ storeHooks i pc0 s u
  adj : d.adjBranch ≤ extra
  call : d.call = callTraceOf i

/-- What a rule that raises a fatal error has done. -/
structure Fails (i : Instr) (s u : State) (k : FatalKind) : Prop where
  reached : Reached i s u
  kind : k ∈ [FatalKind.unimplementedOpcode, .stackOverflow, .stackUnderrun]
  shadow : u.shadow = s.shadow
  rcalls : u.rcalls = s.rcalls
  regs : RegsKept [] s u
  p : u.p = s.p

theorem Plain.completes {i : Instr} (hp : Plain i) {s u : State} (h : RegistersStep s u) (pc0 : Word) (d : Completion)
    {extra : Nat} (hadj : d.adjBranch ≤ extra) (hcall : d.call = .none) : Completes i pc0 s u d extra where
  reached := (Reached.refl i s).registers h
  port := by rw [h.port, storeHooks, hp.stores, List.flatMap_nil, List.append_nil]
  adj := hadj
  call := hcall.trans hp.call.symm

theorem StoresAt.completes {i : Instr} {k : State → Word} (hs : StoresAt i k) {pc0 : Word} {v : Byte} {s u : State}
    (h : RegistersStep (Machine.memWrite pc0 (k s) v s) u) : Completes i pc0 s u {} 0 where
  reached := ((Reached.refl i s).memWrite (by rw [hs.stores]; exact List.mem_singleton_self _) pc0 v).registers h
  port := by
    have hv : Machine.memRead u (k s) = v := by rw [h.memRead, memRead_memWrite, if_pos rfl]
    rw [h.port, storeHooks, hs.stores, List.flatMap_singleton, hv]
    rfl
  adj := Nat.le_refl 0
  call := hs.call.symm

/-- A rule that raises an error before it changes anything but SP. -/
theorem fails_of_setSp (i : Instr) (s : State) (sp : Byte) {k : FatalKind}
    (hk : k ∈ [FatalKind.unimplementedOpcode, .stackOverflow, .stackUnderrun]) : Fails i s (s.setSp sp) k where
  reached := (Reached.refl i s).registers (.setSp sp s)
  kind := hk
  shadow := rfl
  rcalls := rfl
  regs q _ := s.reg_setSp sp q
  p := rfl

/-- What a push answers: the byte stored and one less SP, or its error in the same state. -/
theorem push_cases (pc0 : Word) (v : Byte) (s : State) :
    push pc0 v s = .ok () ((memWrite pc0 (stackAddr s.sp) v s).setSp (s.sp - 1)) ∨
      push pc0 v s = .fatal .stackOverflow s := by
  by_cases h : s.sp = 0x00
  · exact .inr (push_fatal h)
  · exact .inl (push_ok h)

/-- The state in which JSR tells the shadow stack of the call: both bytes of `ret` are pushed. -/
def State.pushedWord (pc0 ret : Word) (s : State) : State :=
  (memWrite pc0 (stackAddr (s.sp - 1)) (lowByte ret)
    ((memWrite pc0 (stackAddr s.sp) (highByte ret) s).setSp (s.sp - 1))).setSp (s.sp - 1 - 1)

/-- JSR with room for two bytes (45_control_transfer.md R271). -/
theorem jsrEffect_ok (pc0 a : Word) {s : State} (h : s.sp ≠ 0x00) (h' : s.sp - 1 ≠ 0x00) :
    jsrEffect pc0 a s =
      .ok { call := .jsr a } ((shadowCall a s.sp (s.pushedWord pc0 (s.pc - 1))).setPc a) := by
  simp only [jsrEffect, push_ok h, Eff.bind_ok]
  rw [push_ok h']
  rfl

/-- JSR with room for one byte: the high byte is stored before the second push fails. -/
theorem jsrEffect_fatal_second (pc0 a : Word) {s : State} (h : s.sp ≠ 0x00) (h' : s.sp - 1 = 0x00) :
    jsrEffect pc0 a s =
      .fatal .stackOverflow ((memWrite pc0 (stackAddr s.sp) (highByte (s.pc - 1)) s).setSp (s.sp - 1)) := by
  simp only [jsrEffect, push_ok h, Eff.bind_ok]
  rw [push_fatal h']
  rfl

/-- JSR with no room. -/
theorem jsrEffect_fatal_first (pc0 a : Word) {s : State} (h : s.sp = 0x00) :
    jsrEffect pc0 a s = .fatal .stackOverflow s := by
  rw [jsrEffect, push_fatal h]
  rfl

/-- RTS with two bytes to pop (R272). -/
theorem rtsEffect_ok {s : State} (h : s.sp ≠ 0xFF) (h' : s.sp + 1 ≠ 0xFF) :
    rtsEffect s = .ok { call := .rts } (shadowReturn s.sp (((s.setSp (s.sp + 1)).setSp (s.sp + 1 + 1)).setPc
      (wordOf (memRead s (stackAddr (s.sp + 1 + 1))) (memRead s (stackAddr (s.sp + 1))) + 1))) := by
  simp only [rtsEffect, pop_ok h, Eff.bind_ok]
  rw [pop_ok h']
  rfl

/-- RTS with fewer. -/
theorem rtsEffect_fatal {s : State} (h : s.sp = 0xFF ∨ s.sp + 1 = 0xFF) :
    ∃ sp, rtsEffect s = .fatal .stackUnderrun (s.setSp sp) := by
  by_cases h0 : s.sp = 0xFF
  · exact ⟨s.sp, by rw [rtsEffect, pop_fatal h0]; rfl⟩
  · refine ⟨s.sp + 1, ?_⟩
    simp only [rtsEffect, pop_ok h0, Eff.bind_ok]
    rw [pop_fatal (h.resolve_left h0)]
    rfl

/-- The addresses of JSR's two bytes. -/
theorem storedAddrs_jsr (a : Word) (s : State) : storedAddrs (.jsr a) s = [stackAddr s.sp, stackAddr (s.sp - 1)] := rfl

/-- A stack pointer and its predecessor differ. -/
theorem sp_sub_one_ne (sp : Byte) : sp - 1 ≠ sp := by
  simp

/-- The port after `MemWrite` (20_memory.md R70). -/
theorem memWrite_port (pc0 k : Word) (v : Byte) (s : State) : (memWrite pc0 k v s).port =
    s.port ++ (.write k (memRead s k) v pc0 s.cyc :: screenEvents s.cfg k (memRead s k) v s.cyc) := rfl

theorem memRead_pushedWord (pc0 ret k : Word) (s : State) : memRead (s.pushedWord pc0 ret) k =
    if k = stackAddr (s.sp - 1) then lowByte ret else if k = stackAddr s.sp then highByte ret else memRead s k := by
  simp only [State.pushedWord, memRead_setSp, memRead_memWrite]

/-- The two write hooks of JSR, in the order of its pushes. -/
theorem pushedWord_port (a pc0 ret : Word) (s : State) :
    (s.pushedWord pc0 ret).port = s.port ++ storeHooks (.jsr a) pc0 s (s.pushedWord pc0 ret) := by
  have hne : stackAddr (s.sp - 1) ≠ stackAddr s.sp := mt (stackAddr_inj _ _).mp (sp_sub_one_ne s.sp)
  simp only [storeHooks, storedAddrs_jsr, List.flatMap_cons, List.flatMap_nil, memRead_pushedWord, if_neg hne.symm, if_pos]
  simp only [State.pushedWord, State.setSp_port, memWrite_port, memRead_setSp, memRead_memWrite, if_neg hne, State.setSp_cyc,
    memWrite_cyc, State.setSp_cfg, memWrite_cfg, List.append_assoc, List.append_nil]

/-- `ShadowCall` keeps the invariant where the SP it records is at least 2. -/
theorem shadowCall_inv {a : Word} {sp : Byte} {s : State} (hs : s.Inv) (hsp : 2 ≤ sp.toNat) : (shadowCall a sp s).Inv where
  mem := by rw [shadowCall_mem]; exact hs.mem
  rcyc := by rw [shadowCall_rcyc]; exact hs.rcyc
  rcalls := by rw [shadowCall_rcalls]; exact cellsWf_cellPut hs.rcalls a _
  bit5 := by rw [shadowCall_flag]; exact hs.bit5
  depth := by
    rw [shadowCall_shadow, shadowCall_cfg]
    split
    · next h => exact h
    · exact hs.depth
  frames f hf := by
    rw [shadowCall_shadow] at hf
    split at hf
    · obtain rfl | hf := List.mem_cons.mp hf
      · exact hsp
      · exact hs.frames f hf
    · exact hs.frames f hf

/-- `ShadowReturn` leaves the shadow stack as it was or without its top frame. -/
theorem shadowReturn_suffix (sp : Byte) (s : State) : (shadowReturn sp s).shadow <:+ s.shadow := by
  rw [shadowReturn_shadow]
  cases s.shadow with
  | nil => exact List.suffix_refl []
  | cons f rest =>
    dsimp only
    split
    · exact List.suffix_cons f rest
    · exact List.suffix_refl _

theorem shadowReturn_inv {sp : Byte} {s : State} (hs : s.Inv) : (shadowReturn sp s).Inv where
  mem := by rw [shadowReturn_mem]; exact hs.mem
  rcyc := by rw [shadowReturn_rcyc]; exact hs.rcyc
  rcalls := by rw [shadowReturn_rcalls]; exact hs.rcalls
  bit5 := by rw [shadowReturn_flag]; exact hs.bit5
  depth := by
    rw [shadowReturn_cfg]
    exact (shadowReturn_suffix sp s).length_le.trans hs.depth
  frames f hf := hs.frames f ((shadowReturn_suffix sp s).subset hf)

/-- Both bytes of JSR are stores of the instruction. -/
theorem reached_pushedWord (a pc0 ret : Word) (s : State) : Reached (.jsr a) s (s.pushedWord pc0 ret) :=
  ((((Reached.refl _ s).memWrite List.mem_cons_self pc0 _).registers (.setSp ..)).memWrite
    (List.mem_cons_of_mem _ List.mem_cons_self) pc0 _).registers (.setSp ..)

theorem jsr_completes (pc0 a : Word) {s : State} (h : s.sp ≠ 0x00) (h' : s.sp - 1 ≠ 0x00) :
    Completes (.jsr a) pc0 s ((shadowCall a s.sp (s.pushedWord pc0 (s.pc - 1))).setPc a) { call := .jsr a } 0 where
  reached := by
    have hr := reached_pushedWord a pc0 (s.pc - 1) s
    have hsp : 2 ≤ s.sp.toNat := by
      have h1 := sp_pred_toNat h
      have h2 : (s.sp - 1).toNat ≠ 0 := fun e => h' (BitVec.eq_of_toNat_eq e)
      omega
    refine Reached.registers (u := shadowCall a s.sp (s.pushedWord pc0 (s.pc - 1))) ?_ (.setPc ..)
    exact {
      run := by rw [shadowCall_run, hr.run]
      frames := by rw [shadowCall_frames, hr.frames]
      cfg := by rw [shadowCall_cfg, hr.cfg]
      hostQuit := by rw [shadowCall_hostQuit, hr.hostQuit]
      cyc := by rw [shadowCall_cyc, hr.cyc]
      rcyc := by rw [shadowCall_rcyc, hr.rcyc]
      rcalls := fun hi => absurd rfl (hi a)
      shadow := fun hi => absurd rfl (hi a)
      full := fun hfull _ => by
        have hroom : ¬ (s.pushedWord pc0 (s.pc - 1)).shadow.length < (s.pushedWord pc0 (s.pc - 1)).cfg.shadowDepth :=
          Nat.not_lt.mpr hfull
        rw [shadowCall_shadow, if_neg hroom]
        rfl
      mem := fun k hk => by rw [shadowCall_memRead, hr.mem k hk]
      inv := fun hs => shadowCall_inv (hr.inv hs) hsp }
  port := by
    rw [State.setPc_port, shadowCall_port, pushedWord_port a]
    simp only [storeHooks, memRead_setPc, shadowCall_memRead]
  adj := Nat.le_refl 0
  call := rfl

/-- RTS: a change of registers, and the top frame popped or not. -/
theorem rts_completes {s u : State} (h : RegistersStep s u) (pc0 : Word) (sp : Byte) :
    Completes .rts pc0 s (shadowReturn sp u) { call := .rts } 0 where
  reached := by
    have hr := (Reached.refl .rts s).registers h
    exact {
      run := by rw [shadowReturn_run, hr.run]
      frames := by rw [shadowReturn_frames, hr.frames]
      cfg := by rw [shadowReturn_cfg, hr.cfg]
      hostQuit := by rw [shadowReturn_hostQuit, hr.hostQuit]
      cyc := by rw [shadowReturn_cyc, hr.cyc]
      rcyc := by rw [shadowReturn_rcyc, hr.rcyc]
      rcalls := fun hi => by rw [shadowReturn_rcalls, hr.rcalls hi]
      shadow := fun _ hi => absurd rfl hi
      full := fun _ hi => absurd rfl hi
      mem := fun k hk => by rw [shadowReturn_memRead, hr.mem k hk]
      inv := fun hs => shadowReturn_inv (hr.inv hs) }
  port := by
    rw [shadowReturn_port, h.port]
    exact (List.append_nil _).symm
  adj := Nat.le_refl 0
  call := rfl

theorem branchEffect_eq (c : State → Bool) (r : Byte) (s : State) : branchEffect c r s =
    if c s then .ok { adjBranch := 1 + cross s.pc (s.pc + sext16 r) } (s.setPc (s.pc + sext16 r)) else .ok {} s := rfl

/-- Every rule goes on as `Completes` says, or raises a fatal error as `Fails` says. -/
theorem Rule.cases {i : Instr} {extra : Nat} {rule : Word → State → Eff Completion} (h : Rule i extra rule) (pc0 : Word)
    (s : State) : (∃ d u, rule pc0 s = .ok d u ∧ Completes i pc0 s u d extra) ∨
      ∃ k u, rule pc0 s = .fatal k u ∧ Fails i s u k := by
  cases h with
  | read o h hp => exact .inl ⟨_, _, rfl, hp.completes (h.registersStep ..) pc0 _ (Nat.le_refl 0) rfl⟩
  | implied h hp => exact .inl ⟨_, _, rfl, hp.completes (h.registersStep s) pc0 _ (Nat.le_refl 0) rfl⟩
  | shiftA h hp =>
    have hbit5 := (ModifyRule.shift h).getFlag_u s.a s.p
    exact .inl ⟨_, _, rfl, hp.completes (setAP_registersStep hbit5) pc0 _ (Nat.le_refl 0) rfl⟩
  | store m hv hs => exact .inl ⟨_, _, rfl, hs.completes (.refl _)⟩
  | modify m h hs => exact .inl ⟨_, _, rfl, hs.completes (.setP_of_eq (h.getFlag_u ..))⟩
  | @push v hv h hs =>
    obtain e | e := push_cases pc0 (v s) s <;> simp only [e]
    · exact .inl ⟨_, _, rfl, hs.completes (.setSp ..)⟩
    · exact .inr ⟨_, _, rfl, fails_of_setSp i s s.sp (by decide)⟩
  | pull h hp =>
    obtain ⟨u, e, hu⟩ | ⟨sp, e⟩ := h.cases s <;> simp only [e]
    · exact .inl ⟨_, u, rfl, hp.completes hu pc0 _ (Nat.le_refl 0) rfl⟩
    · exact .inr ⟨_, _, rfl, fails_of_setSp i s sp (by decide)⟩
  | @branch c r hc hp =>
    simp only [branchEffect_eq]
    split
    · have hadj : 1 + cross s.pc (s.pc + sext16 r) ≤ 2 := Nat.add_le_add_left (cross_le ..) 1
      exact .inl ⟨_, _, rfl, hp.completes (.setPc ..) pc0 _ hadj rfl⟩
    · exact .inl ⟨_, _, rfl, hp.completes (.refl s) pc0 _ (Nat.zero_le 2) rfl⟩
  | jump m hp => exact .inl ⟨_, _, rfl, hp.completes (.setPc ..) pc0 _ (Nat.le_refl 0) rfl⟩
  | jsr a hi =>
    subst hi
    by_cases h0 : s.sp = 0x00
    · exact .inr ⟨_, _, jsrEffect_fatal_first pc0 a h0, fails_of_setSp _ s s.sp (by decide)⟩
    · by_cases h1 : s.sp - 1 = 0x00
      · exact .inr ⟨_, _, jsrEffect_fatal_second pc0 a h0 h1, {
          reached := ((Reached.refl _ s).memWrite List.mem_cons_self pc0 _).registers (.setSp ..)
          kind := by decide
          shadow := rfl
          rcalls := rfl
          regs := fun q _ => by rw [State.reg_setSp, memWrite_reg]
          p := rfl }⟩
      · exact .inl ⟨_, _, jsrEffect_ok pc0 a h0 h1, jsr_completes pc0 a h0 h1⟩
  | rts hi =>
    subst hi
    by_cases h : s.sp = 0xFF ∨ s.sp + 1 = 0xFF
    · obtain ⟨sp, e⟩ := rtsEffect_fatal h
      exact .inr ⟨_, _, e, fails_of_setSp _ s sp (by decide)⟩
    · obtain ⟨h0, h1⟩ := not_or.mp h
      exact .inl ⟨_, _, rtsEffect_ok h0 h1,
        rts_completes ((RegistersStep.setSp ..).trans ((RegistersStep.setSp ..).trans (.setPc ..))) pc0 _⟩
  | brk hi => exact .inr ⟨_, _, rfl, fails_of_setSp i s s.sp (by decide)⟩

/-! ### What an instruction answers -/

/-- What an instruction stores to does not depend on PC. -/
theorem storedAddrs_setPc (i : Instr) (s : State) (w : Word) : storedAddrs i (s.setPc w) = storedAddrs i s := by
  cases i <;> rfl

theorem Reached.of_fetched {i : Instr} {s u : State} {len : Nat} (h : Reached i (s.fetched len) u) : Reached i s u where
  run := h.run
  frames := h.frames
  cfg := h.cfg
  hostQuit := h.hostQuit
  cyc := h.cyc
  rcyc := h.rcyc
  rcalls := h.rcalls
  shadow := h.shadow
  full := h.full
  mem := storedAddrs_setPc i s _ ▸ h.mem
  inv hs := h.inv (((Reached.refl i s).registers (.setPc ..)).inv hs)

/-- An instruction that completes, with the state its rule reached and the cost accounted. -/
structure Completed (i : Instr) (s u : State) (cost : Nat) : Prop where
  reached : Reached i s u
  port : u.port = s.port ++ storeHooks i s.pc s u
  two_le : 2 ≤ cost
  le_eight : cost ≤ 8

/-- Everything an instruction can do, said once: it completes and its cost is accounted, or it raises a fatal error. -/
theorem exec_cases (i : Instr) (s : State) :
    (∃ cost u, exec i s = .next (complete s.pc cost (callTraceOf i) u) ∧ Completed i s u cost) ∨
      ∃ k u, exec i s = .next (raiseFatal k s.pc (opcodeOf i) u) ∧ Fails i s u k := by
  obtain ⟨extra, rule, hrule, base, len, adj, hbase, hextra, hadj, hexec⟩ := hasRule i
  obtain ⟨d, u, e, h⟩ | ⟨k, u, e, h⟩ := hrule.cases s.pc (s.fetched len)
  · refine .inl ⟨base + adj s + d.adjBranch, u, ?_, ?_⟩
    · rw [hexec, ← h.call, instruction, ← State.fetched, e]
    · refine ⟨h.reached.of_fetched, ?_, ?_, ?_⟩
      · have hport := h.port
        rw [storeHooks, State.fetched, storedAddrs_setPc] at hport
        exact hport
      · omega
      · have h1 := hadj s
        have h2 := h.adj
        omega
  · refine .inr ⟨k, u, ?_, ?_⟩
    · rw [hexec, instruction, ← State.fetched, e]
    · exact {
        reached := h.reached.of_fetched
        kind := h.kind
        shadow := h.shadow
        rcalls := h.rcalls
        regs := fun q hq => (h.regs q hq).trans (s.reg_setPc _ q)
        p := h.p }

end Sys2Proof.Machine
end

section
/-! PROOF. What holds of every instruction (40_step.md R120, R125; 47_tracer_profiler.md R320 to R325, R331 to R333;
60_exceptions.md R350, R351), from the one inversion of `exec`. -/

namespace Sys2Proof.Machine

/-- An answer of an instruction is one of the two of `exec_cases`. -/
theorem exec_next_cases {i : Instr} {s t : State} (h : exec i s = .next t) :
    (∃ cost u, t = complete s.pc cost (callTraceOf i) u ∧ Completed i s u cost) ∨
      ∃ k u, t = raiseFatal k s.pc (opcodeOf i) u ∧ Fails i s u k := by
  obtain ⟨cost, u, e, hu⟩ | ⟨k, u, e, hu⟩ := exec_cases i s <;> rw [h] at e
  · exact .inl ⟨cost, u, Host.Outcome.next.inj e, hu⟩
  · exact .inr ⟨k, u, Host.Outcome.next.inj e, hu⟩

/-- An instruction after which the run goes on has completed. -/
theorem exec_completed {i : Instr} {s t : State} (h : exec i s = .next t) (ht : t.run = .running) :
    ∃ cost u, t = complete s.pc cost (callTraceOf i) u ∧ Completed i s u cost := by
  obtain hc | ⟨k, u, rfl, -⟩ := exec_next_cases h
  · exact hc
  · cases ht

/-- An instruction that ends the run has raised a fatal error. -/
theorem exec_failed {i : Instr} {s t : State} (h : exec i s = .next t) (hs : s.run = .running) (ht : t.run ≠ .running) :
    ∃ k u, t = raiseFatal k s.pc (opcodeOf i) u ∧ Fails i s u k := by
  obtain ⟨cost, u, rfl, hu⟩ | hf := exec_next_cases h
  · exact absurd (by rw [complete_run, hu.reached.run, hs]) ht
  · exact hf

/-! ### The profiler and the accounting -/

/-- Settles O40: neither the accounting nor a fatal error touches the shadow stack and the call counters, and of the rules
JSR's and RTS's alone do. -/
theorem onlyJsrAndRtsDriveTheProfiler : Obligations.OnlyJsrAndRtsDriveTheProfiler := by
  intro i s t h
  obtain ⟨cost, u, rfl, hu⟩ | ⟨k, u, rfl, hu⟩ := exec_next_cases h
  · simp only [complete_rcalls, complete_shadow]
    exact ⟨hu.reached.rcalls, hu.reached.shadow, hu.reached.full⟩
  · simp only [raiseFatal_rcalls, raiseFatal_shadow]
    exact ⟨hu.reached.rcalls, hu.reached.shadow, hu.reached.full⟩

theorem Completed.accounted {i : Instr} {s u : State} {cost : Nat} (h : Completed i s u cost) (pc0 : Word) (c : CallTrace) :
    Accounted s (complete pc0 cost c u) cost :=
  complete_accounted h.reached.run h.reached.frames h.reached.cfg h.reached.hostQuit h.reached.cyc h.reached.rcyc pc0 cost c

/-- Settles O42: the cost of a completed instruction is accounted after its rule, which keeps what the accounting adds to. -/
theorem costGoesToTheInnermostRoutine : Obligations.CostGoesToTheInnermostRoutine := by
  intro i s t h _ ht
  obtain ⟨cost, u, rfl, hu⟩ := exec_completed h ht
  exact ⟨cost, hu.two_le, hu.le_eight, hu.accounted ..⟩

/-! ### The port -/

theorem complete_port (pc0 : Word) (n : Nat) (c : CallTrace) (s : State) :
    (complete pc0 n c s).port = s.port ++ (callEvents s.cfg.traceCyclesPoint c s.cyc (s.cyc + BitVec.ofNat 64 n) ++
      cycleMarks s.cyc (s.cyc + BitVec.ofNat 64 n) ++ [logEvent pc0 s]) := by
  simp [complete]

/-- The events a completed instruction adds, in order. -/
theorem Completed.port_complete {i : Instr} {s u : State} {cost : Nat} (h : Completed i s u cost) (c : CallTrace) :
    let t := complete s.pc cost c u
    t.port = s.port ++ storeHooks i s.pc s t ++ callEvents s.cfg.traceCyclesPoint c s.cyc t.cyc ++ cycleMarks s.cyc t.cyc ++
      [logEvent s.pc t] := by
  have hhooks : storeHooks i s.pc s (complete s.pc cost c u) = storeHooks i s.pc s u := by
    simp only [storeHooks, complete_memRead]
  have hlog : logEvent s.pc (complete s.pc cost c u) = logEvent s.pc u := by
    simp only [logEvent, complete_a, complete_x, complete_y, complete_pc, complete_sp, complete_p]
  dsimp only
  rw [hhooks, hlog, complete_port, complete_cyc, h.port, h.reached.cyc, h.reached.cfg]
  simp only [List.append_assoc]

/-- The call events (R332), with the count D30 gives them. -/
theorem callEvents_none (point : TraceCyclesPoint) (c0 c1 : Count) : callEvents point .none c0 c1 = [] := by
  cases point <;> simp only [callEvents]

theorem callEvents_jsr (point : TraceCyclesPoint) (a : Word) (c0 c1 : Count) :
    callEvents point (.jsr a) c0 c1 = [.jsr a (if point = .after then c1 else c0)] := by
  cases point <;> simp [callEvents]

theorem callEvents_rts (point : TraceCyclesPoint) (c0 c1 : Count) :
    callEvents point .rts c0 c1 = [.rts (if point = .after then c1 else c0)] := by
  cases point <;> simp [callEvents]

theorem callTraceOf_eq_none {i : Instr} (hjsr : ∀ a, i ≠ .jsr a) (hrts : i ≠ .rts) : callTraceOf i = .none := by
  cases i with
  | jsr a => exact absurd rfl (hjsr a)
  | rts => exact absurd rfl hrts
  | _ => rfl

/-- Settles O47: the events a completed instruction adds, with the call event of its kind. -/
theorem completedInstructionsLog : Obligations.CompletedInstructionsLog := by
  intro i s t h _ ht
  obtain ⟨cost, u, rfl, hu⟩ := exec_completed h ht
  have hport := hu.port_complete (callTraceOf i)
  refine ⟨?_, ?_, _, hport, ?_, ?_, ?_⟩
  · rw [hport]
    exact List.getLast?_concat
  · rw [hport]
    simp only [List.append_assoc]
    exact ⟨_, rfl⟩
  · rintro a rfl
    exact callEvents_jsr ..
  · rintro rfl
    exact callEvents_rts ..
  · intro hjsr hrts
    rw [callTraceOf_eq_none hjsr hrts]
    exact callEvents_none ..

/-- The cycle marks of two counts (R333, D31), as the multiples of 100000 between them. -/
theorem mem_cycleMarks (c0 c1 : Count) (e : Event) :
    e ∈ cycleMarks c0 c1 ↔ ∃ n, e = .cycles n ∧ n % 100000 = 0 ∧ c0.toNat < n ∧ n ≤ c1.toNat := by
  simp only [cycleMarks, List.mem_map, List.mem_range]
  constructor
  · rintro ⟨k, hk, rfl⟩
    exact ⟨_, rfl, by omega, by omega, by omega⟩
  · rintro ⟨n, rfl, hn, hlt, hle⟩
    exact ⟨n / 100000 - c0.toNat / 100000 - 1, by omega, congrArg Event.cycles (by omega)⟩

theorem cycles_not_mem_storeHooks (i : Instr) (pc0 : Word) (s u : State) (n : Nat) :
    Event.cycles n ∉ storeHooks i pc0 s u := by
  simp only [storeHooks, List.mem_flatMap, not_exists, not_and]
  intro k _
  unfold screenEvents
  split <;> simp

theorem cycles_not_mem_callEvents (point : TraceCyclesPoint) (c : CallTrace) (c0 c1 : Count) (n : Nat) :
    Event.cycles n ∉ callEvents point c c0 c1 := by
  cases c <;> simp [callEvents]

/-- Settles O46: of the events a completed instruction adds, the cycle marks alone are cycles events. -/
theorem cycleMarksAreTheMultiplesCrossed : Obligations.CycleMarksAreTheMultiplesCrossed := by
  refine ⟨mem_cycleMarks, fun i s t h _ ht => ?_⟩
  obtain ⟨cost, u, rfl, hu⟩ := exec_completed h ht
  have hport := hu.port_complete (callTraceOf i)
  dsimp only at hport
  rw [List.append_assoc, List.append_assoc, List.append_assoc] at hport
  refine ⟨_, hport, fun n => ?_⟩
  simp [cycles_not_mem_storeHooks, cycles_not_mem_callEvents, mem_cycleMarks, logEvent]

/-! ### Fatal errors and stores -/

theorem Fails.raises {i : Instr} {s u : State} {k : FatalKind} (h : Fails i s u k) (op : Byte) :
    Raises s (raiseFatal k s.pc op u) k op where
  run := rfl
  event := List.getLast?_concat
  cyc := h.reached.cyc
  rcyc := h.reached.rcyc
  rcalls := h.rcalls
  shadow := h.shadow
  regs q hq := (raiseFatal_reg ..).trans (h.regs q hq)
  flags f _ := congrArg (getFlag f) h.p
  frames := h.reached.frames
  cfg := h.reached.cfg
  hostQuit := h.reached.hostQuit

/-- Settles O48: an instruction that ends the run raised the error of its rule, at its own PC and with its own opcode byte. -/
theorem fatalErrorsArePrecise : Obligations.FatalErrorsArePrecise := by
  intro i s t h hs ht
  obtain ⟨k, u, rfl, hu⟩ := exec_failed h hs ht
  exact ⟨k, opcodeOf i, hu.kind, encode_head i, hu.raises _⟩

/-- Settles O59: neither the accounting nor a fatal error writes memory, and a rule writes only where it stores. -/
theorem onlyStoredBytesChange : Obligations.OnlyStoredBytesChange := by
  intro i s t h k hk
  obtain ⟨cost, u, rfl, hu⟩ | ⟨kind, u, rfl, hu⟩ := exec_next_cases h
  · rw [complete_memRead, hu.reached.mem k hk]
  · rw [raiseFatal_memRead, hu.reached.mem k hk]

end Sys2Proof.Machine
end

section
/-! PROOF. One step (40_step.md R120, R127 to R130) of a running state, said once, and what every step keeps. -/

namespace Sys2Proof.Machine

/-! ### The instruction boundary -/

theorem pollQuit_nil {s : State} (h : s.hostQuit = []) : pollQuit s = s := by
  rw [pollQuit, h]

theorem pollQuit_cons {s : State} {quit : Bool} {later : List Bool} (h : s.hostQuit = quit :: later) :
    pollQuit s = { s with hostQuit := later, run := if quit then .stopped .quit else s.run } := by
  rw [pollQuit, h]

/-- Without a quit the signals' entry for this boundary is taken and nothing else changes (R127). -/
theorem pollQuit_of_no_quit {s : State} (h : s.hostQuit.head? ≠ some true) :
    pollQuit s = { s with hostQuit := s.hostQuit.tail } := by
  cases hq : s.hostQuit with
  | nil =>
    rw [pollQuit_nil hq, List.tail_nil, ← hq]
  | cons quit later =>
    have hquit : quit = false := by simpa [hq] using h
    rw [pollQuit_cons hq, hquit]
    rfl

theorem boundary_quit {s : State} {later : List Bool} (h : s.hostQuit = true :: later) :
    boundary s = { s with run := .stopped .quit, hostQuit := later, port := [] } := by
  have hpoll := pollQuit_cons (s := { s with port := [] }) h
  simp only [boundary, hpoll]
  rfl

/-- The state at a boundary without a quit: its entry of the signals is taken and the port is empty. -/
def State.polled (s : State) : State := { s with hostQuit := s.hostQuit.tail, port := [] }

/-- A boundary of a running state without a quit is its frame boundary (R359). -/
theorem boundary_of_no_quit {s : State} (hrun : s.run = .running) (h : s.hostQuit.head? ≠ some true) :
    boundary s = frameBoundary s.polled := by
  have hpoll : pollQuit { s with port := [] } = s.polled := pollQuit_of_no_quit (s := { s with port := [] }) h
  have hrun' : s.polled.run = .running := hrun
  simp only [boundary, hpoll, hrun']

/-- Away from FRAME_ADDR nothing is counted (R130). -/
theorem frameBoundary_elsewhere {s : State} (h : s.cfg.frameAddr ≠ some s.pc) : frameBoundary s = s := by
  unfold frameBoundary
  split
  · next addr limit haddr _ => exact if_neg (by rintro rfl; exact h haddr)
  · rfl

/-- At FRAME_ADDR a pass is counted, and the run stops at the limit (R130). -/
theorem frameBoundary_here {s : State} {limit : Nat} (h : s.cfg.frameAddr = some s.pc) (hl : s.cfg.frameLimit = some limit) :
    frameBoundary s = { s with
      frames := s.frames + 1
      run := if s.frames + 1 = limit then .stopped .frameLimit else s.run } := by
  simp only [frameBoundary, h, hl, if_pos]

/-! ### The step -/

/-- After the instruction a step adds at most events (47_tracer_profiler.md R328). -/
theorem finishStep_next (pc0 : Word) (u : State) : ∃ es, finishStep pc0 (.next u) = .next (u.emit es) := by
  simp only [finishStep]
  split
  · exact ⟨_, rfl⟩
  · exact ⟨[], by rw [State.emit, List.append_nil]⟩
  · exact ⟨[], by rw [State.emit, List.append_nil]⟩

theorem step_of_boundary_ended {s : State} (hrun : s.run = .running) (hend : (boundary s).run ≠ .running) :
    step s = .next (boundary s) := by
  simp only [step, hrun]
  split
  · contradiction
  · rfl
  · rfl

theorem step_of_fetchInstr_some {s : State} {i : Instr} (hrun : s.run = .running) (hgo : (boundary s).run = .running)
    (hfetch : fetchInstr s = some i) : step s = finishStep (boundary s).pc (exec i s.atFetch) := by
  have hsome : fetchInstr (watch .pre (boundary s).pc (boundary s)) = some i := (fetchInstr_atFetch s).trans hfetch
  simp only [step, hrun, hgo, hsome, State.atFetch]

/-- What a step of a running state can do: the boundary ends the run, the fetch finds no instruction, or the instruction
answers a state to which at most events are added. -/
theorem step_cases {s : State} (hrun : s.run = .running) :
    ((boundary s).run ≠ .running ∧ step s = .next (boundary s)) ∨
      step s = .next (decodeError s.atFetch) ∨
      ∃ i u es, exec i s.atFetch = .next u ∧ step s = .next (u.emit es) := by
  by_cases hgo : (boundary s).run = .running
  · cases hfetch : fetchInstr s with
    | none => exact .inr (.inl (step_of_fetchInstr_none hrun hgo hfetch))
    | some i =>
      obtain ⟨u, hu⟩ : ∃ u, exec i s.atFetch = .next u := by
        obtain ⟨_, _, e, -⟩ | ⟨_, _, e, -⟩ := exec_cases i s.atFetch <;> exact ⟨_, e⟩
      obtain ⟨es, hes⟩ := finishStep_next (boundary s).pc u
      exact .inr (.inr ⟨i, u, es, hu, by rw [step_of_fetchInstr_some hrun hgo hfetch, hu, hes]⟩)
  · exact .inl ⟨hgo, step_of_boundary_ended hrun hgo⟩

/-! ### The invariant -/

theorem State.Inv.boundary {s : State} (h : s.Inv) : (Machine.boundary s).Inv := by
  obtain ⟨n, r, q, e⟩ := boundary_eq_update s
  rw [e]
  exact { h with }

theorem State.Inv.atFetch {s : State} (h : s.Inv) : s.atFetch.Inv := by
  obtain ⟨n, r, q, es, e⟩ := s.atFetch_eq_update
  rw [e]
  exact { h with }

theorem State.Inv.emit {s : State} (h : s.Inv) (es : List Event) : (s.emit es).Inv := { h with }

theorem State.Inv.decodeError {s : State} (h : s.Inv) : (Machine.decodeError s).Inv := { h with }

theorem State.Inv.raiseFatal {s : State} (h : s.Inv) (k : FatalKind) (pc0 : Word) (op : Byte) :
    (Machine.raiseFatal k pc0 op s).Inv := { h with }

theorem State.Inv.complete {s : State} (h : s.Inv) (pc0 : Word) (cost : Nat) (c : CallTrace) :
    (Machine.complete pc0 cost c s).Inv where
  mem := by rw [complete_mem]; exact h.mem
  rcyc := complete_rcyc_wf pc0 cost c s h.rcyc
  rcalls := by rw [complete_rcalls]; exact h.rcalls
  bit5 := by rw [complete_flag]; exact h.bit5
  depth := by rw [complete_shadow, complete_cfg]; exact h.depth
  frames := by rw [complete_shadow]; exact h.frames

theorem exec_keeps_inv {i : Instr} {s t : State} (hs : s.Inv) (h : exec i s = .next t) : t.Inv := by
  obtain ⟨cost, u, rfl, hu⟩ | ⟨k, u, rfl, hu⟩ := exec_next_cases h
  · exact (hu.reached.inv hs).complete ..
  · exact (hu.reached.inv hs).raiseFatal ..

/-- Settles O53: the boundary, the watches and the fetch write no field of the invariant, and every instruction keeps it. -/
theorem stepKeepsTheInvariant : Obligations.StepKeepsTheInvariant := by
  intro s t hs h
  by_cases hrun : s.run = .running
  · obtain ⟨-, e⟩ | e | ⟨i, u, es, hu, e⟩ := step_cases hrun <;> cases h.symm.trans e
    · exact hs.boundary
    · exact hs.atFetch.decodeError
    · exact (exec_keeps_inv hs.atFetch hu).emit es
  · exact absurd h (endedRunsTakeNoStep s t hrun)

/-! ### The next state, its configuration and its passes -/

theorem boundary_cfg (s : State) : (boundary s).cfg = s.cfg := by
  obtain ⟨n, r, q, e⟩ := boundary_eq_update s
  rw [e]

theorem atFetch_cfg (s : State) : s.atFetch.cfg = s.cfg := boundary_cfg s

theorem exec_cfg {i : Instr} {s t : State} (h : exec i s = .next t) : t.cfg = s.cfg := by
  obtain ⟨cost, u, rfl, hu⟩ | ⟨k, u, rfl, hu⟩ := exec_next_cases h
  · exact (complete_cfg ..).trans hu.reached.cfg
  · exact hu.reached.cfg

theorem exec_frames {i : Instr} {s t : State} (h : exec i s = .next t) : t.frames = s.frames := by
  obtain ⟨cost, u, rfl, hu⟩ | ⟨k, u, rfl, hu⟩ := exec_next_cases h
  · exact (complete_frames ..).trans hu.reached.frames
  · exact hu.reached.frames

/-- Settles O55: each of the three ways a step can go answers a next state, and none writes the configuration. -/
theorem runningStatesHaveANextState : Obligations.RunningStatesHaveANextState := by
  intro s hrun
  obtain ⟨-, e⟩ | e | ⟨i, u, es, hu, e⟩ := step_cases hrun
  · exact ⟨_, e, boundary_cfg s⟩
  · exact ⟨_, e, atFetch_cfg s⟩
  · exact ⟨_, e, (exec_cfg hu).trans (atFetch_cfg s)⟩

/-- A step counts the passes its boundary counts: no instruction writes FRAMES. -/
theorem step_frames {s t : State} (hrun : s.run = .running) (h : step s = .next t) : t.frames = (boundary s).frames := by
  obtain ⟨-, e⟩ | e | ⟨i, u, es, hu, e⟩ := step_cases hrun <;> cases h.symm.trans e
  · rfl
  · rfl
  · have hframes : u.frames = s.atFetch.frames := exec_frames hu
    exact hframes

/-- Settles O52: a boundary that ends the run is the whole step, and without a quit the boundary counts. -/
theorem boundaryStopsTheRun : Obligations.BoundaryStopsTheRun := by
  intro s hrun
  refine ⟨fun later hquit => ?_, fun limit hquit haddr hlimit hcount => ?_, fun limit t hquit hlimit hstep => ?_⟩
  · have hb := boundary_quit hquit
    rw [step_of_boundary_ended hrun (by rw [hb]; exact nofun), hb]
  · have hb : boundary s = { s with
        run := .stopped .frameLimit, frames := s.frames + 1, hostQuit := s.hostQuit.tail, port := [] } := by
      rw [boundary_of_no_quit hrun hquit, frameBoundary_here (s := s.polled) haddr hlimit,
        if_pos (show s.polled.frames + 1 = limit from hcount)]
      rfl
    rw [step_of_boundary_ended hrun (by rw [hb]; exact nofun), hb]
  · rw [step_frames hrun hstep, boundary_of_no_quit hrun hquit]
    split
    · next haddr =>
      rw [frameBoundary_here (s := s.polled) haddr hlimit]
      rfl
    · next haddr =>
      rw [frameBoundary_elsewhere (s := s.polled) haddr]
      rfl

/-! ### The decoded instruction -/

theorem fetchInstr_of_decode {s : State} {i : Instr} {rest : List Byte}
    (h : decode s.cfg.zpiOps (fetchBytes s) = .instr i rest) : fetchInstr s = some i := by
  rw [fetchInstr, h, Decoded.instr?]

/-- Without watches `Watch` emits nothing (47_tracer_profiler.md R328). -/
theorem watch_of_no_watches (phase : WatchPhase) (pc0 : Word) {s : State} (h : s.cfg.watches = []) : watch phase pc0 s = s := by
  have hrecords : watchRecords phase pc0 s = [] := by rw [watchRecords, h]; rfl
  rw [watch, hrecords, State.emit, List.append_nil]

theorem finishStep_of_no_watches (pc0 : Word) {u : State} (h : u.cfg.watches = []) :
    finishStep pc0 (.next u) = .next u := by
  simp only [finishStep, watch_of_no_watches .post pc0 h]
  split <;> rfl

/-- Settles O49: the fetch after the boundary and the watch reads what it would have read before them. -/
theorem stepRunsTheDecodedInstruction : Obligations.StepRunsTheDecodedInstruction := by
  have hpc (s : State) : (boundary s).pc = s.pc := by
    obtain ⟨n, r, q, e⟩ := boundary_eq_update s
    rw [e]
  refine ⟨fun s i rest hrun hgo hdecode => ?_, fun s i rest hrun hquit haddr hwatches hdecode => ?_⟩
  · rw [step_of_fetchInstr_some hrun hgo (fetchInstr_of_decode hdecode), State.atFetch, hpc]
  · have hb : boundary s = { s with port := [] } := by
      have hpolled : s.polled = { s with port := [] } := by rw [State.polled, hquit, List.tail_nil, ← hquit]
      rw [boundary_of_no_quit hrun (by simp [hquit]), hpolled]
      exact frameBoundary_elsewhere (by simp [haddr])
    have hf : s.atFetch = { s with port := [] } := by
      rw [State.atFetch, watch_of_no_watches .pre _ (by rw [boundary_cfg, hwatches]), hb]
    rw [step_of_fetchInstr_some hrun (by rw [hb, hrun]) (fetchInstr_of_decode hdecode), hf]
    obtain ⟨u, hu⟩ : ∃ u, exec i { s with port := [] } = .next u := by
      obtain ⟨_, _, e, -⟩ | ⟨_, _, e, -⟩ := exec_cases i { s with port := [] } <;> exact ⟨_, e⟩
    rw [hu, finishStep_of_no_watches _ (by rw [exec_cfg hu, hwatches])]

end Sys2Proof.Machine
end

section
/-! PROOF. No program can observe CYC, the profiler, the ports or the observers' settings (10_state.md R42): every operation of
an instruction, run in two states with the same core, gives the same values and again two states with the same core. -/

namespace Sys2Proof.Machine

namespace State.SameCore

variable {s s' : State}

/-! ### Values read from the core -/

theorem memRead (h : s.SameCore s') (k : Word) : Machine.memRead s k = Machine.memRead s' k := by
  rw [Machine.memRead, Machine.memRead, h.mem]

theorem memReadZp16 (h : s.SameCore s') (z : Byte) : Machine.memReadZp16 s z = Machine.memReadZp16 s' z := by
  rw [Machine.memReadZp16, Machine.memReadZp16, h.memRead, h.memRead, h.cfg.zpPtrHi]

theorem reg (h : s.SameCore s') (r : Reg) : s.reg r = s'.reg r := by
  cases r
  · exact h.a
  · exact h.x
  · exact h.y

theorem flag (h : s.SameCore s') (f : Flag) : s.flag f = s'.flag f := congrArg (getFlag f) h.p

theorem ea (h : s.SameCore s') (m : AddrForm) : m.ea s = m.ea s' := by
  cases m <;> simp only [AddrForm.ea, h.x, h.y, h.cfg.zpIndexWrap, h.cfg.jmpIndWrap, h.memRead, h.memReadZp16]

theorem read (h : s.SameCore s') (o : Source) : o.read s = o.read s' := by
  cases o with
  | imm v => rfl
  | mem m => rw [Source.read, Source.read, h.ea, h.memRead]

theorem byteSource (h : s.SameCore s') {v : State → Byte} (hv : ByteSource v) : v s = v s' := by
  induction hv with
  | a => exact h.a
  | x => exact h.x
  | y => exact h.y
  | sp => exact h.sp
  | php => simp only [h.p, h.cfg.phpB]
  | const v => rfl
  | succ _ ih => simp only [ih]
  | pred _ ih => simp only [ih]

theorem branchCond (h : s.SameCore s') {c : State → Bool} (hc : BranchCond c) : c s = c s' := by
  cases hc with
  | set f => exact h.flag f
  | clear f => simp only [h.flag f]
  | always => rfl

/-! ### Updates of the core -/

theorem setReg (h : s.SameCore s') (r : Reg) (v : Byte) : (s.setReg r v).SameCore (s'.setReg r v) := by
  cases r
  · exact { h with a := rfl }
  · exact { h with x := rfl }
  · exact { h with y := rfl }

theorem setP (h : s.SameCore s') (v : Byte) : (s.setP v).SameCore (s'.setP v) := { h with p := rfl }

theorem setSp (h : s.SameCore s') (v : Byte) : (s.setSp v).SameCore (s'.setSp v) := { h with sp := rfl }

theorem setPc (h : s.SameCore s') (w : Word) : (s.setPc w).SameCore (s'.setPc w) := { h with pc := rfl }

theorem setAP (h : s.SameCore s') (q : Byte × Byte) : (s.setAP q).SameCore (s'.setAP q) := (h.setReg .a q.1).setP q.2

theorem loadReg (h : s.SameCore s') (r : Reg) (v : Byte) : (loadReg r v s).SameCore (loadReg r v s') := by
  rw [Machine.loadReg, Machine.loadReg, h.p]
  exact (h.setReg r v).setP _

theorem memWrite (h : s.SameCore s') (pc0 k : Word) (v : Byte) : (memWrite pc0 k v s).SameCore (memWrite pc0 k v s') :=
  { h with mem := congrArg (cellPut · k.toNat v) h.mem }

theorem raiseFatal (h : s.SameCore s') (k : FatalKind) (pc0 : Word) (op : Byte) :
    (raiseFatal k pc0 op s).SameCore (raiseFatal k pc0 op s') := { h with run := rfl }

/-- Updates of what the observers own on either side. -/
theorem shadowCall (h : s.SameCore s') (a : Word) (sp sp' : Byte) : (shadowCall a sp s).SameCore (shadowCall a sp' s') := by
  constructor <;> simp [h.a, h.x, h.y, h.sp, h.p, h.pc, h.mem, h.run, h.cfg]

theorem shadowReturn (h : s.SameCore s') (sp sp' : Byte) : (shadowReturn sp s).SameCore (shadowReturn sp' s') := by
  constructor <;> simp [h.a, h.x, h.y, h.sp, h.p, h.pc, h.mem, h.run, h.cfg]

theorem complete (h : s.SameCore s') (pc0 pc0' : Word) (n n' : Nat) (c c' : CallTrace) :
    (complete pc0 n c s).SameCore (complete pc0' n' c' s') := by
  constructor <;> simp [h.a, h.x, h.y, h.sp, h.p, h.pc, h.mem, h.run, h.cfg]

end State.SameCore

theorem ReadRule.sameCore {mn : String} {f : Byte → State → State} (hf : ReadRule mn f) (m : Byte) {s s' : State}
    (h : s.SameCore s') : (f m s).SameCore (f m s') := by
  cases hf with
  | load r => exact h.loadReg r m
  | adc =>
    rw [adcEffect, adcEffect, h.a, h.p, h.cfg.bcdAdc]
    exact h.setAP _
  | sbc =>
    rw [sbcEffect, sbcEffect, h.a, h.p, h.cfg.bcdSbc]
    exact h.setAP _
  | and =>
    rw [andEffect, andEffect, h.a]
    exact h.loadReg ..
  | ora =>
    rw [oraEffect, oraEffect, h.a]
    exact h.loadReg ..
  | eor =>
    rw [eorEffect, eorEffect, h.a]
    exact h.loadReg ..
  | compare r =>
    rw [compareEffect, compareEffect, h.reg, h.p]
    exact h.setP _
  | bit =>
    rw [bitEffect, bitEffect, h.a, h.p]
    exact h.setP _

theorem ImpliedRule.sameCore {mn : String} {f : State → State} (hf : ImpliedRule mn f) {s s' : State}
    (h : s.SameCore s') : (f s).SameCore (f s') := by
  cases hf with
  | load r hv =>
    simp only [h.byteSource hv]
    exact h.loadReg ..
  | txs =>
    simp only [h.x]
    exact h.setSp _
  | flag f on =>
    simp only [State.setFlag, h.p]
    exact h.setP _
  | nop => exact h

/-! ### Rules that can fail -/

/-- Two outcomes of a part of an instruction that a program cannot tell apart. -/
inductive SameEff {α : Type} : Eff α → Eff α → Prop
  | ok (v : α) {s s' : State} (h : s.SameCore s') : SameEff (.ok v s) (.ok v s')
  | fatal (k : FatalKind) {s s' : State} (h : s.SameCore s') : SameEff (.fatal k s) (.fatal k s')

theorem SameEff.bind {α β : Type} {e e' : Eff α} {f f' : α → State → Eff β} (h : SameEff e e')
    (hf : ∀ v (t t' : State), t.SameCore t' → SameEff (f v t) (f' v t')) : SameEff (e.bind f) (e'.bind f') := by
  cases h with
  | ok v h => exact hf v _ _ h
  | fatal k h => exact .fatal k h

theorem sameEff_push (pc0 : Word) (v : Byte) {s s' : State} (h : s.SameCore s') : SameEff (push pc0 v s) (push pc0 v s') := by
  rw [push, push, h.sp]
  split
  · exact .fatal _ h
  · exact .ok () ((h.memWrite ..).setSp _)

theorem sameEff_pop {s s' : State} (h : s.SameCore s') : SameEff (pop s) (pop s') := by
  rw [pop, pop, h.sp, h.memRead]
  split
  · exact .fatal _ h
  · exact .ok _ (h.setSp _)

theorem PullRule.sameEff {mn : String} {f : State → Eff Unit} (hf : PullRule mn f) {s s' : State} (h : s.SameCore s') :
    SameEff (f s) (f s') := by
  cases hf with
  | reg r => exact (sameEff_pop h).bind fun v _ _ h1 => .ok () (h1.loadReg r v)
  | status => exact (sameEff_pop h).bind fun v _ _ h1 => .ok () (h1.setP _)
  | rti =>
    exact (sameEff_pop h).bind fun p _ _ h1 => (sameEff_pop h1).bind fun lo _ _ h2 => (sameEff_pop h2).bind fun hi _ _ h3 =>
      .ok () ((h3.setP _).setPc _)

theorem sameEff_branch {c : State → Bool} (hc : BranchCond c) (r : Byte) {s s' : State} (h : s.SameCore s') :
    SameEff (branchEffect c r s) (branchEffect c r s') := by
  rw [branchEffect_eq, branchEffect_eq, h.branchCond hc, h.pc]
  split
  · exact .ok _ (h.setPc _)
  · exact .ok _ h

theorem sameEff_jsr (pc0 a : Word) {s s' : State} (h : s.SameCore s') : SameEff (jsrEffect pc0 a s) (jsrEffect pc0 a s') := by
  rw [jsrEffect, jsrEffect, h.pc]
  exact (sameEff_push pc0 _ h).bind fun _ _ _ h1 => (sameEff_push pc0 _ h1).bind fun _ _ _ h2 =>
    .ok _ ((h2.shadowCall ..).setPc a)

theorem sameEff_rts {s s' : State} (h : s.SameCore s') : SameEff (rtsEffect s) (rtsEffect s') :=
  (sameEff_pop h).bind fun _ _ _ h1 => (sameEff_pop h1).bind fun _ _ _ h2 => .ok _ ((h2.setPc _).shadowReturn ..)

/-- Every rule keeps two states with the same core the same. -/
theorem Rule.sameEff {i : Instr} {extra : Nat} {rule : Word → State → Eff Completion} (hr : Rule i extra rule) (pc0 : Word)
    {s s' : State} (h : s.SameCore s') : SameEff (rule pc0 s) (rule pc0 s') := by
  cases hr with
  | read o hf =>
    simp only [h.read o]
    exact .ok _ (hf.sameCore _ h)
  | implied hf => exact .ok _ (hf.sameCore h)
  | shiftA =>
    simp only [h.a, h.p]
    exact .ok _ (h.setAP _)
  | store m hv =>
    simp only [h.ea, h.byteSource hv]
    exact .ok _ (h.memWrite ..)
  | modify m =>
    simp only [h.ea, h.memRead, h.p]
    exact .ok _ ((h.memWrite ..).setP _)
  | push hv =>
    simp only [h.byteSource hv]
    exact (sameEff_push pc0 _ h).bind fun _ _ _ h1 => .ok _ h1
  | pull hf => exact (hf.sameEff h).bind fun _ _ _ h1 => .ok _ h1
  | branch r hc => exact sameEff_branch hc r h
  | jump m =>
    simp only [h.ea]
    exact .ok _ (h.setPc _)
  | jsr a => exact sameEff_jsr pc0 a h
  | rts => exact sameEff_rts h
  | brk => exact .fatal _ h

/-- Settles O56: the rule of the instruction keeps the same core the same, and so do the accounting, whatever its cost, and
the fatal error. -/
theorem instructionsCannotObserveTheProfiler : Obligations.InstructionsCannotObserveTheProfiler := by
  intro i s s' h
  obtain ⟨extra, rule, hrule, base, len, adj, -, -, -, hexec⟩ := hasRule i
  have heff := hrule.sameEff s.pc (h.setPc (s.pc + BitVec.ofNat 16 len))
  rw [hexec, hexec, instruction, instruction, ← h.pc]
  generalize rule s.pc (s.setPc (s.pc + BitVec.ofNat 16 len)) = e at heff ⊢
  generalize rule s.pc (s'.setPc (s.pc + BitVec.ofNat 16 len)) = e' at heff ⊢
  cases heff with
  | ok d hu => exact ⟨_, _, rfl, rfl, hu.complete ..⟩
  | fatal k hu => exact ⟨_, _, rfl, rfl, hu.raiseFatal ..⟩

end Sys2Proof.Machine
end

section
/-! PROOF. Only the named instructions write a register, SP or a flag (10_state.md R21 to R25, R35, R36): for each operation of an
instruction, what it may write, and the mnemonics that use it. -/

namespace Sys2Proof.Machine

/-- The writers of each general register (R21, R22, R23). -/
def regWriters : Reg → List String
  | .a => ["LDA", "PLA", "TXA", "TYA", "ADC", "SBC", "AND", "ORA", "EOR", "ASL", "LSR", "ROL", "ROR", "INA", "DEA"]
  | .x => ["LDX", "TAX", "TSX", "INX", "DEX", "PLX"]
  | .y => ["LDY", "TAY", "INY", "DEY", "PLY"]

/-- The writers of SP (R25). -/
def spWriters : List String :=
  ["TXS", "PHA", "PHP", "PHX", "PHY", "PLA", "PLP", "PLX", "PLY", "JSR", "RTS", "RTI"]

/-- The writers of Z and N (R36), but PLP and RTI. -/
def znWriters : List String :=
  ["ADC", "SBC", "AND", "ORA", "EOR", "CMP", "CPX", "CPY", "BIT", "ASL", "LSR", "ROL", "ROR", "INC", "DEC", "INX", "DEX",
    "INY", "DEY", "INA", "DEA", "LDA", "LDX", "LDY", "TAX", "TAY", "TXA", "TYA", "TSX", "PLA", "PLX", "PLY"]

/-- The writers of each flag (R35), but PLP and RTI, which write all of P. -/
def flagWriters : Flag → List String
  | .c => ["ADC", "SBC", "CMP", "CPX", "CPY", "ASL", "LSR", "ROL", "ROR", "CLC", "SEC"]
  | .i => ["CLI", "SEI"]
  | .d => ["CLD", "SED"]
  | .v => ["ADC", "SBC", "BIT", "CLV"]
  | .z | .n => znWriters
  | .b | .u => []

/-- P is written whole by PLP and RTI alone (R35). -/
def statusWriters : List String := ["PLP", "RTI"]

/-- Going from `s` to `u` changed only what an instruction with this mnemonic may write. -/
structure WritesOnly (mn : String) (s u : State) : Prop where
  reg (r : Reg) : mn ∉ regWriters r → u.reg r = s.reg r
  sp : mn ∉ spWriters → u.sp = s.sp
  flag (g : Flag) : mn ∉ statusWriters → mn ∉ flagWriters g → u.flag g = s.flag g

namespace WritesOnly

variable {mn : String} {s u : State}

theorem refl (mn : String) (s : State) : WritesOnly mn s s := ⟨fun _ _ => rfl, fun _ => rfl, fun _ _ _ => rfl⟩

theorem trans {w : State} (h : WritesOnly mn s u) (h' : WritesOnly mn u w) : WritesOnly mn s w where
  reg r hr := (h'.reg r hr).trans (h.reg r hr)
  sp hsp := (h'.sp hsp).trans (h.sp hsp)
  flag g hst hg := (h'.flag g hst hg).trans (h.flag g hst hg)

theorem setPc (h : WritesOnly mn s u) (w : Word) : WritesOnly mn s (u.setPc w) where
  reg r hr := (u.reg_setPc w r).trans (h.reg r hr)
  sp := h.sp
  flag := h.flag

theorem setSp (h : WritesOnly mn s u) (v : Byte) (hmn : mn ∈ spWriters) : WritesOnly mn s (u.setSp v) where
  reg r hr := (u.reg_setSp v r).trans (h.reg r hr)
  sp hsp := absurd hmn hsp
  flag := h.flag

theorem setReg (h : WritesOnly mn s u) (r : Reg) (v : Byte) (hmn : mn ∈ regWriters r) : WritesOnly mn s (u.setReg r v) where
  reg q hq := by rw [State.reg_setReg, if_neg (by rintro rfl; exact hq hmn), h.reg q hq]
  sp hsp := by rw [State.setReg_sp, h.sp hsp]
  flag g hst hg := by rw [State.flag_setReg, h.flag g hst hg]

theorem setP (h : WritesOnly mn s u) {p : Byte}
    (hp : ∀ g, mn ∉ statusWriters → mn ∉ flagWriters g → getFlag g p = u.flag g) : WritesOnly mn s (u.setP p) where
  reg r hr := (u.reg_setP p r).trans (h.reg r hr)
  sp := h.sp
  flag g hst hg := (hp g hst hg).trans (h.flag g hst hg)

theorem memWrite (h : WritesOnly mn s u) (pc0 k : Word) (v : Byte) : WritesOnly mn s (memWrite pc0 k v u) where
  reg r hr := (memWrite_reg pc0 k v u r).trans (h.reg r hr)
  sp := h.sp
  flag := h.flag

theorem shadowCall (h : WritesOnly mn s u) (a : Word) (sp : Byte) : WritesOnly mn s (shadowCall a sp u) where
  reg r hr := (shadowCall_reg a sp u r).trans (h.reg r hr)
  sp hsp := (shadowCall_sp a sp u).trans (h.sp hsp)
  flag g hst hg := (shadowCall_flag a sp u g).trans (h.flag g hst hg)

theorem shadowReturn (h : WritesOnly mn s u) (sp : Byte) : WritesOnly mn s (shadowReturn sp u) where
  reg r hr := (shadowReturn_reg sp u r).trans (h.reg r hr)
  sp hsp := (shadowReturn_sp sp u).trans (h.sp hsp)
  flag g hst hg := (shadowReturn_flag sp u g).trans (h.flag g hst hg)

theorem complete (h : WritesOnly mn s u) (pc0 : Word) (n : Nat) (c : CallTrace) : WritesOnly mn s (complete pc0 n c u) where
  reg r hr := (complete_reg pc0 n c u r).trans (h.reg r hr)
  sp hsp := (complete_sp pc0 n c u).trans (h.sp hsp)
  flag g hst hg := (complete_flag pc0 n c u g).trans (h.flag g hst hg)

theorem raiseFatal (h : WritesOnly mn s u) (k : FatalKind) (pc0 : Word) (op : Byte) :
    WritesOnly mn s (raiseFatal k pc0 op u) where
  reg r hr := (raiseFatal_reg k pc0 op u r).trans (h.reg r hr)
  sp := h.sp
  flag := h.flag

end WritesOnly

/-! ### The rules that cannot fail -/

/-- A flag that the mnemonic may not write is none of those it writes. -/
theorem flag_ne_of_not_writer {mn : String} {g g' : Flag} (hg : mn ∉ flagWriters g) (h : mn ∈ flagWriters g') : g ≠ g' := by
  rintro rfl
  exact hg h

theorem regWriters_of_loader {mn : String} {r : Reg} (h : mn ∈ loadersOf r) : mn ∈ regWriters r := by
  revert mn
  cases r <;> decide

theorem znWriters_of_loader {mn : String} {r : Reg} (h : mn ∈ loadersOf r) : mn ∈ znWriters := by
  revert mn
  cases r <;> decide

theorem getFlag_setZN_of_not_writer {mn : String} {g : Flag} (hg : mn ∉ flagWriters g) (h : mn ∈ znWriters) (v p : Byte) :
    getFlag g (setZN v p) = getFlag g p := by
  rw [getFlag_setZN, if_neg (flag_ne_of_not_writer (g' := .n) hg h), if_neg (flag_ne_of_not_writer (g' := .z) hg h)]

theorem WritesOnly.loadReg {mn : String} {r : Reg} (hr : mn ∈ regWriters r) (hzn : mn ∈ znWriters) (v : Byte) (s : State) :
    WritesOnly mn s (loadReg r v s) :=
  ((WritesOnly.refl mn s).setReg r v hr).setP fun g _ hg => by
    rw [getFlag_setZN_of_not_writer hg hzn, State.flag_setReg, State.flag]

/-- A and P written by an instruction that keeps the flags it may not write. -/
theorem WritesOnly.setAP {mn : String} (ha : mn ∈ regWriters .a) {q : Byte × Byte} {s : State}
    (hp : ∀ g, mn ∉ flagWriters g → getFlag g q.2 = getFlag g s.p) : WritesOnly mn s (s.setAP q) :=
  ((WritesOnly.refl mn s).setReg .a q.1 ha).setP fun g _ hg => hp g hg

/-! What a group of mnemonics writes, by its lists. -/

theorem arithmetic_writes : ∀ mn ∈ ["ADC", "SBC"], ∀ g ∈ [Flag.c, .v, .z, .n], mn ∈ flagWriters g := by decide

theorem shift_writes : ∀ mn ∈ ["ASL", "LSR", "ROL", "ROR"], mn ∈ regWriters .a ∧ ∀ g ∈ [Flag.c, .z, .n], mn ∈ flagWriters g := by
  decide

theorem compare_writes : ∀ mn ∈ ["CMP", "CPX", "CPY"], ∀ g ∈ [Flag.c, .z, .n], mn ∈ flagWriters g := by decide

theorem push_writes : ∀ mn ∈ ["PHA", "PHP", "PHX", "PHY"], mn ∈ spWriters := by decide

theorem pull_writes : ∀ mn ∈ ["PLA", "PLX", "PLY"], mn ∈ spWriters := by decide

theorem getFlag_arithmetic_of_not_writer {mn : String} (h : mn ∈ ["ADC", "SBC"]) {g : Flag} (hg : mn ∉ flagWriters g)
    (r : Byte) (v c : Bool) (p : Byte) : getFlag g (setZN r (putFlag .v v (putFlag .c c p))) = getFlag g p := by
  have hw := arithmetic_writes mn h
  rw [getFlag_arithmetic, if_neg (flag_ne_of_not_writer hg (hw .n (by decide))),
    if_neg (flag_ne_of_not_writer hg (hw .z (by decide))), if_neg (flag_ne_of_not_writer hg (hw .v (by decide))),
    if_neg (flag_ne_of_not_writer hg (hw .c (by decide)))]

theorem getFlag_shifted_of_not_writer {mn : String} (h : mn ∈ ["ASL", "LSR", "ROL", "ROR"]) {g : Flag}
    (hg : mn ∉ flagWriters g) (r : Byte) (out : Bool) (p : Byte) : getFlag g (shifted r out p).2 = getFlag g p := by
  have hw := (shift_writes mn h).2
  rw [getFlag_shifted, if_neg (flag_ne_of_not_writer hg (hw .n (by decide))),
    if_neg (flag_ne_of_not_writer hg (hw .z (by decide))), if_neg (flag_ne_of_not_writer hg (hw .c (by decide)))]

theorem ShiftRule.mnemonic {mn : String} {f : Byte → Byte → Byte × Byte} (h : ShiftRule mn f) :
    mn ∈ ["ASL", "LSR", "ROL", "ROR"] := by
  cases h <;> decide

/-- A shift or rotate keeps the flags its mnemonic may not write. -/
theorem ShiftRule.getFlag {mn : String} {f : Byte → Byte → Byte × Byte} (h : ShiftRule mn f) {g : Flag}
    (hg : mn ∉ flagWriters g) (v p : Byte) : getFlag g (f v p).2 = Machine.getFlag g p := by
  obtain ⟨r, out, e⟩ := h.eq_shifted v p
  rw [e, getFlag_shifted_of_not_writer h.mnemonic hg]

theorem ModifyRule.getFlag {mn : String} {f : Byte → Byte → Byte × Byte} (h : ModifyRule mn f) {g : Flag}
    (hg : mn ∉ flagWriters g) (v p : Byte) : getFlag g (f v p).2 = Machine.getFlag g p := by
  cases h with
  | shift h => exact h.getFlag hg v p
  | inc => exact getFlag_setZN_of_not_writer hg (by decide) ..
  | dec => exact getFlag_setZN_of_not_writer hg (by decide) ..

theorem ReadRule.writesOnly {mn : String} {f : Byte → State → State} (h : ReadRule mn f) (m : Byte) (s : State) :
    WritesOnly mn s (f m s) := by
  cases h with
  | load r h => exact .loadReg (regWriters_of_loader h) (znWriters_of_loader h) m s
  | adc => exact .setAP (by decide) fun g hg => getFlag_arithmetic_of_not_writer (by decide) hg ..
  | sbc => exact .setAP (by decide) fun g hg => getFlag_arithmetic_of_not_writer (by decide) hg ..
  | and | ora | eor => exact .loadReg (r := .a) (by decide) (by decide) ..
  | compare r h =>
    refine (WritesOnly.refl mn s).setP fun g _ hg => ?_
    have hw := compare_writes mn h
    rw [getFlag_compareFlags, if_neg (flag_ne_of_not_writer hg (hw .n (by decide))),
      if_neg (flag_ne_of_not_writer hg (hw .z (by decide))), if_neg (flag_ne_of_not_writer hg (hw .c (by decide))),
      State.flag]
  | bit =>
    refine (WritesOnly.refl "BIT" s).setP fun g _ hg => ?_
    rw [getFlag_bitFlags, if_neg (flag_ne_of_not_writer (g' := .v) hg (by decide)),
      if_neg (flag_ne_of_not_writer (g' := .n) hg (by decide)),
      if_neg (flag_ne_of_not_writer (g' := .z) hg (by decide)), State.flag]

theorem flagWriters_of_flagWritersOf {mn : String} {f : Flag} (h : mn ∈ flagWritersOf f) : mn ∈ flagWriters f := by
  revert mn
  cases f <;> decide

theorem ImpliedRule.writesOnly {mn : String} {f : State → State} (h : ImpliedRule mn f) (s : State) :
    WritesOnly mn s (f s) := by
  cases h with
  | load r _ h => exact .loadReg (regWriters_of_loader h) (znWriters_of_loader h) ..
  | txs => exact (WritesOnly.refl "TXS" s).setSp _ (by decide)
  | flag f on h =>
    refine (WritesOnly.refl mn s).setP fun g _ hg => ?_
    rw [getFlag_putFlag, if_neg (flag_ne_of_not_writer hg (flagWriters_of_flagWritersOf h)), State.flag]
  | nop => exact .refl ..

/-! ### The rules that can fail -/

/-- The state an outcome has reached, whether the rule goes on or not. -/
def Eff.state {α : Type} : Eff α → State
  | .ok _ s => s
  | .fatal _ s => s

theorem WritesOnly.bind {mn : String} {α β : Type} {s : State} {e : Eff α} {f : α → State → Eff β}
    (h : WritesOnly mn s e.state) (hf : ∀ v u, WritesOnly mn s u → WritesOnly mn s (f v u).state) :
    WritesOnly mn s (e.bind f).state := by
  cases e with
  | ok v u => exact hf v u h
  | fatal k u => exact h

theorem WritesOnly.push {mn : String} {s u : State} (h : WritesOnly mn s u) (hmn : mn ∈ spWriters) (pc0 : Word) (v : Byte) :
    WritesOnly mn s (push pc0 v u).state := by
  obtain e | e := push_cases pc0 v u <;> rw [e]
  · exact (h.memWrite ..).setSp _ hmn
  · exact h

theorem WritesOnly.pop {mn : String} {s u : State} (h : WritesOnly mn s u) (hmn : mn ∈ spWriters) :
    WritesOnly mn s (pop u).state := by
  obtain ⟨v, e⟩ | e := pop_cases u <;> rw [e]
  · exact h.setSp _ hmn
  · exact h

theorem PullRule.writesOnly {mn : String} {f : State → Eff Unit} (h : PullRule mn f) (s : State) :
    WritesOnly mn s (f s).state := by
  cases h with
  | reg r h hp =>
    have hmn := pull_writes mn hp
    exact ((WritesOnly.refl mn s).pop hmn).bind fun v u hu =>
      hu.trans (.loadReg (regWriters_of_loader h) (znWriters_of_loader h) v u)
  | status =>
    exact ((WritesOnly.refl "PLP" s).pop (by decide)).bind fun v u hu => hu.setP fun _ hst _ => absurd (by decide) hst
  | rti =>
    exact ((WritesOnly.refl "RTI" s).pop (by decide)).bind fun p u hu => (hu.pop (by decide)).bind fun lo u1 hu1 =>
      (hu1.pop (by decide)).bind fun hi u2 hu2 => (hu2.setP fun _ hst _ => absurd (by decide) hst).setPc _

/-- Every rule, whether it goes on or not, writes only what its instruction's mnemonic may write. -/
theorem Rule.writesOnly {i : Instr} {extra : Nat} {rule : Word → State → Eff Completion} (hr : Rule i extra rule) (pc0 : Word)
    (s : State) : WritesOnly (mnemonicOf i) s (rule pc0 s).state := by
  have hrefl := WritesOnly.refl (mnemonicOf i) s
  cases hr with
  | read o h => exact h.writesOnly ..
  | implied h => exact h.writesOnly s
  | shiftA h => exact .setAP (shift_writes _ h.mnemonic).1 fun g hg => h.getFlag hg ..
  | store m => exact hrefl.memWrite ..
  | modify m h => exact (hrefl.memWrite ..).setP fun g _ hg => h.getFlag hg ..
  | push hv h => exact (hrefl.push (push_writes _ h) pc0 _).bind fun _ _ hu => hu
  | pull h => exact (h.writesOnly s).bind fun _ _ hu => hu
  | branch r =>
    simp only [branchEffect_eq]
    split
    · exact hrefl.setPc _
    · exact hrefl
  | jump m => exact hrefl.setPc _
  | jsr a hi =>
    have hmn : mnemonicOf i ∈ spWriters := by
      rw [hi, show mnemonicOf (.jsr a) = "JSR" from rfl]
      decide
    exact (hrefl.push hmn ..).bind fun _ _ hu => (hu.push hmn ..).bind fun _ _ hu' => (hu'.shadowCall ..).setPc a
  | rts hi =>
    have hmn : mnemonicOf i ∈ spWriters := by
      rw [hi]
      decide
    exact (hrefl.pop hmn).bind fun _ _ hu => (hu.pop hmn).bind fun _ _ hu' => (hu'.setPc _).shadowReturn _
  | brk => exact hrefl

/-- Every instruction, whether it completes or not, writes only what its mnemonic may write. -/
theorem exec_writesOnly {i : Instr} {s t : State} (h : exec i s = .next t) : WritesOnly (mnemonicOf i) s t := by
  obtain ⟨extra, rule, hrule, base, len, adj, -, -, -, hexec⟩ := hasRule i
  have hw := ((WritesOnly.refl (mnemonicOf i) s).setPc (s.pc + BitVec.ofNat 16 len)).trans (hrule.writesOnly s.pc _)
  rw [hexec] at h
  obtain ⟨d, u, e, rfl⟩ | ⟨k, u, e, rfl⟩ := instruction_cases h <;> rw [e] at hw
  · exact hw.complete ..
  · exact hw.raiseFatal ..

/-- Settles O57: the writers of each register are those listed. -/
theorem onlyNamedInstructionsWriteRegisters : Obligations.OnlyNamedInstructionsWriteRegisters := by
  intro i s t h
  have hw := exec_writesOnly h
  exact ⟨hw.reg .a, hw.reg .x, hw.reg .y, hw.sp⟩

/-- Settles O58: the writers of each flag are those listed, and B and bit 5 have none. -/
theorem onlyNamedInstructionsWriteFlags : Obligations.OnlyNamedInstructionsWriteFlags := by
  intro i s t h hst
  have hw (g : Flag) := (exec_writesOnly h).flag g hst
  exact ⟨hw .c, hw .i, hw .d, hw .b List.not_mem_nil, hw .u List.not_mem_nil, hw .v, fun hzn => ⟨hw .z hzn, hw .n hzn⟩⟩

end Sys2Proof.Machine
end

section
/-! PROOF. Memory and the stack (20_memory.md R62 to R70, 10_state.md R27, R29), and the effective addresses (41_addressing.md
R142 to R157). -/

namespace Sys2Proof.Machine

/-! ### Words in memory -/

theorem zext16_eq_ofNat (z : Byte) : zext16 z = BitVec.ofNat 16 z.toNat := by
  apply BitVec.eq_of_toNat_eq
  rw [zext16_toNat, BitVec.toNat_ofNat]
  omega

theorem word_add_one_eq_ofNat (k : Word) : k + 1 = BitVec.ofNat 16 (k.toNat + 1) :=
  BitVec.eq_of_toNat_eq (by rw [BitVec.toNat_add, BitVec.toNat_ofNat]; rfl)

theorem zext16_add_one_eq_ofNat (z : Byte) : zext16 z + 1 = BitVec.ofNat 16 (z.toNat + 1) := by
  rw [word_add_one_eq_ofNat, zext16_toNat]

/-- Settles O5: a word is its two bytes, and its high byte stands at the address of the rule, as a number. -/
theorem wordReadsAreLittleEndian : Obligations.WordReadsAreLittleEndian := by
  intro s k z
  refine ⟨?_, fun h => ?_, fun h => ?_⟩
  · rw [memRead16, wordOf_toNat, word_add_one_eq_ofNat]
  · rw [memReadZp16, wordOf_toNat, h, zpPointerHi, zext16_eq_ofNat, zext16_eq_ofNat, byte_add_one_toNat]
  · rw [memReadZp16, wordOf_toNat, h, zpPointerHi, zext16_add_one_eq_ofNat, zext16_eq_ofNat]

/-! ### Writes -/

/-- The port after `MemWrite`, with the screen event of R334 written out. -/
theorem memWrite_port_eq (pc0 k : Word) (v : Byte) (s : State) :
    (memWrite pc0 k v s).port = s.port ++ [.write k (memRead s k) v pc0 s.cyc] ++
      (if s.cfg.screenStatusAddr = some k ∧ memRead s k ≠ v then [.screen s.cyc] else []) := by
  rw [memWrite_port, List.append_assoc]
  rfl

theorem memWrite_memKept (pc0 k : Word) (v : Byte) (s : State) : MemKept [k] s (memWrite pc0 k v s) := fun j hj => by
  rw [memRead_memWrite, if_neg (mt List.mem_singleton.mpr hj)]

/-- Settles O6: `MemWrite` writes memory at one address and the port, and no other field. -/
theorem memWriteEmitsItsHook : Obligations.MemWriteEmitsItsHook := fun pc0 k v s =>
  ⟨memWrite_port_eq pc0 k v s, by rw [memRead_memWrite, if_pos rfl], memWrite_memKept pc0 k v s, rfl⟩

/-- Settles O7: `Push` is a `MemWrite` at the stack pointer's address and a write of SP, or fails before both. -/
theorem pushWritesThenDecrements : Obligations.PushWritesThenDecrements := by
  refine fun pc0 v s => ⟨push_fatal, fun h => ⟨_, push_ok h, sp_pred_toNat h, ?_⟩⟩
  rw [← stackAddr_eq]
  refine ⟨?_, memWrite_memKept pc0 _ v s, memWrite_port_eq pc0 _ v s, rfl⟩
  rw [memRead_setSp, memRead_memWrite, if_pos rfl]

/-! ### PHA until the stack is full -/

theorem exec_pha {s : State} (h : s.sp ≠ 0x00) : exec .pha s = .next (s.pushed s.a 3) := stackInstr_push 0x48 3 .a h

theorem exec_pha_full {s : State} (h : s.sp = 0x00) :
    exec .pha s = .next (raiseFatal .stackOverflow s.pc 0x48 (s.fetched 1)) :=
  stackInstr_fatal (base := 3) (f := fun pc0 s1 => push pc0 s1.a s1) (push_fatal h)

theorem execAll_cons {i : Instr} {s t : State} (h : exec i s = .next t) (ht : t.run = .running) (rest : List Instr) :
    execAll (i :: rest) s = execAll rest t := by
  simp only [execAll, h, ht, if_pos]

/-- As many PHAs as SP allows fill that many bytes below the stack pointer with A. -/
theorem execAll_pha (n : Nat) {s : State} (hrun : s.run = .running) (hn : n ≤ s.sp.toNat) :
    ∃ t, execAll (List.replicate n .pha) s = some t ∧ t.sp.toNat = s.sp.toNat - n ∧
      ∀ k : Byte, memRead t (stackAddr k) =
        if s.sp.toNat - n < k.toNat ∧ k.toNat ≤ s.sp.toNat then s.a else memRead s (stackAddr k) := by
  induction n generalizing s with
  | zero => exact ⟨s, rfl, rfl, fun k => by rw [if_neg (by omega)]⟩
  | succ n ih =>
    have hsp : s.sp ≠ 0x00 := by
      intro h
      rw [h] at hn
      exact absurd hn (Nat.not_succ_le_zero n)
    have hpred := sp_pred_toNat hsp
    have hrun' : (s.pushed s.a 3).run = .running := (s.pushed_advances s.a 3).run.trans hrun
    obtain ⟨t, ht, htsp, hmem⟩ := ih hrun' (by rw [State.pushed_sp, hpred]; omega)
    refine ⟨t, ?_, ?_, fun k => ?_⟩
    · rw [List.replicate_succ, execAll_cons (exec_pha hsp) hrun', ht]
    · rw [htsp, State.pushed_sp, hpred]
      omega
    · have ha : (s.pushed s.a 3).a = s.a := s.pushed_reg s.a 3 .a
      rw [hmem, State.pushed_sp, hpred, memRead_pushed, ha]
      simp only [stackAddr_inj]
      by_cases hk : k = s.sp
      · subst hk
        rw [if_pos rfl, ite_self, if_pos (by omega)]
      · have hne : k.toNat ≠ s.sp.toNat := fun e => hk (BitVec.eq_of_toNat_eq e)
        rw [if_neg hk]
        congr 1
        exact propext (by omega)

/-- Settles O9: 255 PHAs fill the stack from SP = 0xFF down to 0x00, where the next one fails. -/
theorem stackHolds255Bytes : Obligations.StackHolds255Bytes := by
  intro s hrun hsp
  have h255 : s.sp.toNat = 255 := congrArg BitVec.toNat hsp
  obtain ⟨t, ht, htsp, hmem⟩ := execAll_pha 255 hrun h255.ge
  rw [h255] at htsp hmem
  have ht0 : t.sp = 0x00 := BitVec.eq_of_toNat_eq htsp
  refine ⟨t, ht, ht0, fun k h1 h2 => ?_, ?_, _, exec_pha_full ht0, rfl, rfl⟩
  · have hk : (BitVec.ofNat 8 k).toNat = k := Nat.mod_eq_of_lt (by omega)
    have hm := hmem (BitVec.ofNat 8 k)
    rw [stackAddr_eq, hk] at hm
    rw [hm, if_pos (by omega)]
  · exact hmem 0x00

/-! ### Effective addresses -/

theorem zpIndex_mod256 (z i : Byte) : (zpIndex .mod256 z i).toNat = (z.toNat + i.toNat) % 256 := BitVec.toNat_add z i

theorem zpIndex_mod255 (z i : Byte) : (zpIndex .mod255 z i).toNat = (z.toNat + i.toNat) % 255 := by
  rw [zpIndex, BitVec.toNat_ofNat]
  omega

/-- Settles O10: the index is added by `ZPIndex`, whose result is a byte. -/
theorem zeroPageIndexWraps : Obligations.ZeroPageIndexWraps := by
  rintro s z m i (⟨rfl, rfl⟩ | ⟨rfl, rfl⟩)
  all_goals
    refine ⟨rfl, fun h => ?_, fun h => ?_⟩
    · rw [AddrForm.ea, zext16_toNat, h, zpIndex_mod256]
    · rw [AddrForm.ea, zext16_toNat, h, zpIndex_mod255]

/-- Settles O11: the three modes add an index to a base, and their penalty compares the sum with the base. -/
theorem indexedAddressesAndPenalty : Obligations.IndexedAddressesAndPenalty := by
  intro s m base i h
  obtain ⟨hea, hadj⟩ : m.ea s = base + zext16 i ∧ m.adj s = cross base (m.ea s) := by
    obtain ⟨rfl, rfl⟩ | ⟨rfl, rfl⟩ | ⟨z, rfl, rfl, rfl⟩ := h <;> exact ⟨rfl, rfl⟩
  refine ⟨?_, by rw [hadj, cross_eq]⟩
  rw [hea, BitVec.toNat_add, zext16_toNat]

/-- The start of a pointer's own page, where its high byte stands under page_bug (R150, D4). -/
theorem indirectHi_pageBug (p : Word) :
    indirectHi .pageBug p = BitVec.ofNat 16 (p.toNat / 256 * 256 + (p.toNat + 1) % 256) := by
  apply BitVec.eq_of_toNat_eq
  rw [indirectHi, wordOf_toNat, highByte_toNat, byte_add_one_toNat, lowByte_toNat, BitVec.toNat_ofNat]
  omega

/-- Settles O12: the addresses and the operands are the definitions', with the wraps as numbers. -/
theorem pointerAddresses : Obligations.PointerAddresses := by
  intro s a z
  have hpointer : z + s.x = BitVec.ofNat 8 ((z.toNat + s.x.toNat) % 256) :=
    BitVec.eq_of_toNat_eq (by rw [BitVec.toNat_add, BitVec.toNat_ofNat, Nat.mod_mod])
  refine ⟨⟨zext16_eq_ofNat z, rfl⟩, ⟨rfl, rfl⟩, ⟨rfl, rfl⟩, ⟨?_, rfl⟩, rfl, fun h => ?_, fun h => ?_, ⟨rfl, rfl⟩, ⟨rfl, rfl⟩,
    fun m => ⟨rfl, rfl, rfl, rfl⟩⟩
  · rw [AddrForm.ea, hpointer]
  · rw [AddrForm.ea, h, indirectHi, memRead16]
  · rw [AddrForm.ea, h, indirectHi_pageBug]

/-- Settles O54: the state of R43, field by field. -/
theorem resetMeetsTheInvariant : Obligations.ResetMeetsTheInvariant := by
  refine ⟨⟨rfl, rfl, rfl, rfl, Nat.zero_le _, nofun⟩, rfl, rfl, fun q => ?_, rfl, rfl, rfl, rfl, fun k => ⟨rfl, rfl, rfl⟩⟩
  cases q <;> rfl

end Sys2Proof.Machine
end

section
/-! PROOF. ADC and SBC (43_alu.md R200 to R204), AND, ORA and EOR (R205 to R207), and the shifts of A (44_shift_incdec.md R231 to
R234): the instructions that write A and P. -/

namespace Sys2Proof.Machine

/-! ### Signed overflow -/

/-- The sign bit of a byte, from its number. -/
theorem getLsbD_seven (v : Byte) : v.getLsbD 7 = decide (128 ≤ v.toNat) := BitVec.msb_eq_decide v

theorem toInt_byte (v : Byte) : v.toInt = if v.toNat < 128 then (v.toNat : Int) else (v.toNat : Int) - 256 := by
  rw [BitVec.toInt_eq_toNat_cond]
  simp only [Nat.reducePow]
  split <;> split <;> omega

/-- Settles O15: with the sign bits and the result as numbers, both sides say where the exact sum lies. -/
theorem overflowIsSignedOverflow : Obligations.OverflowIsSignedOverflow := by
  intro a n c
  have hresult : (addCore a n c).result.toNat = (a.toNat + n.toNat + c.toNat) % 256 := BitVec.toNat_ofNat ..
  have hc : c.toNat ≤ 1 := c.toNat_le
  rw [addCore_overflow_iff, getLsbD_seven, getLsbD_seven, getLsbD_seven, hresult, toInt_byte, toInt_byte]
  simp only [decide_eq_decide, ne_eq]
  split <;> split <;> omega

/-! ### The default readings of the decimal parameters -/

theorem and_0x0F (n : Nat) : n &&& 0x0F = n % 16 := Nat.and_two_pow_sub_one_eq_mod n 4

theorem and_0xF0 (n : Nat) : n &&& 0xF0 = n / 16 % 16 * 2 ^ 4 := by
  have h : n / 16 % 16 = (n >>> 4) &&& 0x0F := by rw [and_0x0F, Nat.shiftRight_eq_div_pow]
  rw [h, ← Nat.shiftLeft_eq, show 0xF0 = 0x0F <<< 4 from rfl]
  apply Nat.eq_of_testBit_eq
  intro j
  rw [Nat.testBit_and, Nat.testBit_shiftLeft, Nat.testBit_shiftLeft, Nat.testBit_and, Nat.testBit_shiftRight]
  by_cases hj : 4 ≤ j
  · rw [Nat.add_sub_cancel' hj, Bool.and_left_comm]
  · simp [hj]

/-- The low nibble is over 9 as the mask tests it. -/
theorem lowNibble_gt (n : Nat) : n &&& 0x0F > 0x09 ↔ n % 16 > 9 := by rw [and_0x0F]

/-- The high nibble is over 9 as the mask tests it. -/
theorem highNibble_gt (n : Nat) : n &&& 0xF0 > 0x90 ↔ n / 16 % 16 > 9 := by
  rw [and_0xF0]
  omega

theorem ofInt_byte_toNat (s : Int) : ((BitVec.ofInt 8 s).toNat : Int) = s % 256 := by
  rw [BitVec.toNat_ofInt]
  omega

/-- The default reading of bcd_adc (R201, D6), over natural numbers. -/
theorem bcdAdcReading_eq (a m : Byte) (c : Bool) :
    let s0 := a.toNat + m.toNat + c.toNat
    let s1 := if s0 &&& 0x0F > 0x09 then s0 + 0x06 else s0
    let s2 := if s1 &&& 0xF0 > 0x90 then s1 + 0x60 else s1
    (bcdAdc .reading a m c).1.toNat = s2 % 256 ∧ (bcdAdc .reading a m c).2 = decide (s2 > 0xFF) := by
  intro s0 s1 s2
  have h1 : fixLowNibble (s0 : Nat) = (s1 : Nat) := by
    simp only [fixLowNibble, s1, lowNibble_gt]
    split <;> split <;> omega
  have h2 : fixHighNibble (s1 : Nat) = (s2 : Nat) := by
    simp only [fixHighNibble, s2, highNibble_gt]
    split <;> split <;> omega
  have h : bcdAdc .reading a m c = (BitVec.ofInt 8 (s2 : Nat), decide (((s2 : Nat) : Int) > 0xFF)) := by
    rw [← h2, ← h1]
    rfl
  rw [h]
  refine ⟨?_, ?_⟩
  · have := ofInt_byte_toNat (s2 : Nat)
    dsimp only
    omega
  · simp only [decide_eq_decide]
    omega

/-- The default reading of bcd_sbc (R202, D7), over the integers. -/
theorem bcdSbcReading_eq (a m : Byte) (c : Bool) :
    let s0 : Int := a.toNat + (255 - m.toNat) + c.toNat - 0x66
    let s1 : Int := if (s0 % 256).toNat &&& 0x0F > 0x09 then s0 + 0x06 else s0
    let s2 : Int := if (s1 % 256).toNat &&& 0xF0 > 0x90 then s1 + 0x60 else s1
    ((bcdSbc .reading a m c).1.toNat : Int) = s2 % 256 ∧ (bcdSbc .reading a m c).2 = decide (s2 > 0xFF) := by
  intro s0 s1 s2
  have h0 : ((a.toNat + (~~~m).toNat + c.toNat : Nat) : Int) - 0x66 = s0 := by
    rw [BitVec.toNat_not]
    omega
  have h1 : fixLowNibble s0 = s1 := by
    simp only [fixLowNibble, s1, lowNibble_gt]
    split <;> split <;> omega
  have h2 : fixHighNibble s1 = s2 := by
    simp only [fixHighNibble, s2, highNibble_gt]
    split <;> split <;> omega
  have h : bcdSbc .reading a m c = (BitVec.ofInt 8 s2, decide (s2 > 0xFF)) := by
    rw [← h2, ← h1, ← h0]
    rfl
  rw [h]
  exact ⟨ofInt_byte_toNat s2, rfl⟩

/-! ### Instructions that write A and P -/

/-- The state after an instruction of `len` bytes that writes A and P. -/
def State.apWritten (q : Byte × Byte) (len cost : Nat) (s : State) : State :=
  complete s.pc cost .none ((s.fetched len).setAP q)

theorem setAP_coreUpdate (q : Byte × Byte) (s : State) : CoreUpdate s (s.setAP q) := by
  constructor <;> rfl

/-- The whole effect of a write of A and P but the flags, which are those of the new P. -/
theorem State.apWritten_effect (q : Byte × Byte) (len cost : Nat) (s : State) :
    let t := s.apWritten q len cost
    Advances s t len cost ∧ t.a = q.1 ∧ (∀ f, t.flag f = getFlag f q.2) ∧ RegsKept [.a] s t ∧ t.sp = s.sp ∧
      MemKept [] s t := by
  refine ⟨(setAP_coreUpdate q (s.fetched len)).advances cost .none, ?_, fun f => ?_, fun r hr => ?_, ?_, fun k _ => ?_⟩
  · exact complete_a ..
  · exact complete_flag ..
  · have hr' : r ≠ .a := mt List.mem_singleton.mpr hr
    rw [State.apWritten, complete_reg, State.setAP, State.reg_setP, State.reg_setReg, if_neg hr']
    exact s.reg_setPc _ r
  · exact complete_sp ..
  · exact complete_memRead ..

theorem adcForms_run {v : Byte} {a : Word} {f : ReadForm} (h : f ∈ adcForms v a) : f.Runs adcEffect := by
  simp only [adcForms, List.mem_cons, List.not_mem_nil, or_false] at h
  obtain rfl | rfl | rfl | rfl | rfl | rfl | rfl | rfl | rfl := h <;> exact ⟨rfl, rfl, fun _ => rfl⟩

theorem sbcForms_run {v : Byte} {a : Word} {f : ReadForm} (h : f ∈ sbcForms v a) : f.Runs sbcEffect := by
  simp only [sbcForms, List.mem_cons, List.not_mem_nil, or_false] at h
  obtain rfl | rfl | rfl | rfl | rfl | rfl | rfl | rfl | rfl := h <;> exact ⟨rfl, rfl, fun _ => rfl⟩

/-- A and P after ADC and SBC (R203, R204): the result and C are `q`, V is `v`, and Z and N follow the result. -/
def arithmeticResult (q : Byte × Bool) (v : Bool) (p : Byte) : Byte × Byte :=
  (q.1, setZN q.1 (putFlag .v v (putFlag .c q.2 p)))

/-- The whole effect of ADC and SBC. -/
theorem State.apWritten_arithmetic (q : Byte × Bool) (v : Bool) (len cost : Nat) (s : State) :
    let t := s.apWritten (arithmeticResult q v s.p) len cost
    Advances s t len cost ∧ t.a = q.1 ∧ t.flag .c = q.2 ∧ t.flag .v = v ∧ t.flag .z = decide (q.1 = 0) ∧
      t.flag .n = q.1.getLsbD 7 ∧ FlagsKept [.c, .v, .z, .n] s t ∧ RegsKept [.a] s t ∧ t.sp = s.sp ∧ MemKept [] s t := by
  obtain ⟨hadv, ha, hflags, hregs, hsp, hmem⟩ := s.apWritten_effect (arithmeticResult q v s.p) len cost
  simp only [arithmeticResult, getFlag_arithmetic] at hflags
  refine ⟨hadv, ha, hflags .c, hflags .v, hflags .z, hflags .n, fun f hf => ?_, hregs, hsp, hmem⟩
  obtain ⟨hc, hv, hz, hn⟩ : f ≠ .c ∧ f ≠ .v ∧ f ≠ .z ∧ f ≠ .n := by simpa using hf
  exact (hflags f).trans (by rw [if_neg hn, if_neg hz, if_neg hv, if_neg hc, State.flag])

/-- Settles O17: the reading is the rule's pseudocode, and every form of ADC writes A and P as R203 says. -/
theorem adcAddsWithCarry : Obligations.AdcAddsWithCarry := by
  refine ⟨bcdAdcReading_eq, fun v a s f hf => ?_⟩
  have hrun := adcForms_run hf
  exact ⟨hrun.opcode, hrun.length, _, (hrun.exec_eq s).trans (readInstr_eq_next ..), s.apWritten_arithmetic ..⟩

/-- The rule of SBC (R204), with the complement of the operand as a number. -/
theorem subtractWithBorrow_eq (rule : BcdRule) (a m p : Byte) :
    subtractWithBorrow rule a m p = arithmeticResult
      (if getFlag .d p then bcdSbc rule a m (getFlag .c p) else
        (BitVec.ofNat 8 (a.toNat + (255 - m.toNat) + (getFlag .c p).toNat),
          decide (a.toNat + (255 - m.toNat) + (getFlag .c p).toNat > 255)))
      (addCore a (~~~m) (getFlag .c p)).overflow p := by
  have hnot : (~~~m).toNat = 255 - m.toNat := BitVec.toNat_not
  rw [← hnot]
  rfl

/-- Settles O18: the reading is the rule's pseudocode, and every form of SBC writes A and P as R204 says. -/
theorem sbcSubtractsWithBorrow : Obligations.SbcSubtractsWithBorrow := by
  refine ⟨bcdSbcReading_eq, fun v a s f hf => ?_⟩
  have hrun := sbcForms_run hf
  refine ⟨hrun.opcode, hrun.length, _, ?_, s.apWritten_arithmetic ..⟩
  rw [hrun.exec_eq, readInstr_eq_next, sbcEffect, subtractWithBorrow_eq]
  rfl

/-! ### AND, ORA and EOR -/

theorem andForms_run {v : Byte} {a : Word} {f : ReadForm} (h : f ∈ andForms v a) : f.Runs andEffect := by
  simp only [andForms, List.mem_cons, List.not_mem_nil, or_false] at h
  obtain rfl | rfl | rfl | rfl | rfl | rfl | rfl | rfl | rfl := h <;> exact ⟨rfl, rfl, fun _ => rfl⟩

theorem oraForms_run {v : Byte} {a : Word} {f : ReadForm} (h : f ∈ oraForms v a) : f.Runs oraEffect := by
  simp only [oraForms, List.mem_cons, List.not_mem_nil, or_false] at h
  obtain rfl | rfl | rfl | rfl | rfl | rfl | rfl | rfl | rfl := h <;> exact ⟨rfl, rfl, fun _ => rfl⟩

theorem eorForms_run {v : Byte} {a : Word} {f : ReadForm} (h : f ∈ eorForms v a) : f.Runs eorEffect := by
  simp only [eorForms, List.mem_cons, List.not_mem_nil, or_false] at h
  obtain rfl | rfl | rfl | rfl | rfl | rfl | rfl | rfl | rfl := h <;> exact ⟨rfl, rfl, fun _ => rfl⟩

/-- Settles O19: every form of AND, ORA and EOR is a read instruction whose effect is a load of A with the result. -/
theorem logicWritesAWithZN : Obligations.LogicWritesAWithZN := by
  intro v a s f r hf
  obtain ⟨e, hrun, he⟩ : ∃ e, f.Runs e ∧ e (f.src.read s) (s.fetched f.src.length) = loadReg .a r (s.fetched f.src.length) := by
    obtain ⟨hand, rfl⟩ | ⟨hora, rfl⟩ | ⟨heor, rfl⟩ := hf
    · exact ⟨_, andForms_run hand, rfl⟩
    · exact ⟨_, oraForms_run hora, rfl⟩
    · exact ⟨_, eorForms_run heor, rfl⟩
  refine ⟨hrun.opcode, hrun.length, s.loaded .a r f.src.length (f.base + f.src.adj s), ?_, s.loaded_effect ..⟩
  rw [hrun.exec_eq, readInstr_eq_next, he, State.loaded]

/-! ### The shifts as numbers -/

theorem shiftLeft_one_eq (v : Byte) : v <<< 1 = BitVec.ofNat 8 (v.toNat * 2) := by
  apply BitVec.eq_of_toNat_eq
  rw [BitVec.toNat_shiftLeft, BitVec.toNat_ofNat, Nat.shiftLeft_eq]

theorem shiftRight_one_eq (v : Byte) : v >>> 1 = BitVec.ofNat 8 (v.toNat / 2) := by
  apply BitVec.eq_of_toNat_eq
  rw [BitVec.toNat_ushiftRight, BitVec.toNat_ofNat, Nat.shiftRight_eq_div_pow]
  omega

/-- ROL brings the carry in at bit 0 (44_shift_incdec.md R233). -/
theorem rotateLeft_eq (v : Byte) (c : Bool) :
    v <<< 1 ||| BitVec.ofNat 8 c.toNat = BitVec.ofNat 8 (v.toNat * 2 + c.toNat) := by
  have h : v.toNat <<< 1 + c.toNat = v.toNat <<< 1 ||| c.toNat := Nat.shiftLeft_add_eq_or_of_lt c.toNat_lt v.toNat
  rw [shiftLeft_one_eq, ← BitVec.ofNat_or, ← pow_one 2, ← Nat.shiftLeft_eq, ← h]

/-- ROR brings the carry in at bit 7 (R234). -/
theorem rotateRight_eq (v : Byte) (c : Bool) :
    v >>> 1 ||| BitVec.ofNat 8 (128 * c.toNat) = BitVec.ofNat 8 (v.toNat / 2 + 128 * c.toNat) := by
  have hlt : v.toNat / 2 < 2 ^ 7 := by omega
  have h : c.toNat <<< 7 + v.toNat / 2 = c.toNat <<< 7 ||| v.toNat / 2 := Nat.shiftLeft_add_eq_or_of_lt hlt c.toNat
  rw [shiftRight_one_eq, ← BitVec.ofNat_or, Nat.mul_comm 128, show 128 = 2 ^ 7 from rfl, ← Nat.shiftLeft_eq, Nat.or_comm, ← h,
    Nat.add_comm]

/-- The flags after a shift or rotate whose P is `p` before, and the five others as before. -/
theorem shifted_flags (r : Byte) (out : Bool) {s t : State} (h : ∀ f, t.flag f = getFlag f (shifted r out s.p).2) :
    t.flag .c = out ∧ t.flag .z = decide (r = 0) ∧ t.flag .n = r.getLsbD 7 ∧ FlagsKept [.c, .z, .n] s t := by
  simp only [getFlag_shifted] at h
  refine ⟨h .c, h .z, h .n, fun f hf => ?_⟩
  obtain ⟨hc, hz, hn⟩ : f ≠ .c ∧ f ≠ .z ∧ f ≠ .n := by simpa using hf
  rw [h, if_neg hn, if_neg hz, if_neg hc, State.flag]

theorem aslResult_eq (v p : Byte) : aslResult v p = shifted (BitVec.ofNat 8 (v.toNat * 2)) (v.getLsbD 7) p := by
  rw [aslResult, shiftLeft_one_eq]

theorem lsrResult_eq (v p : Byte) : lsrResult v p = shifted (BitVec.ofNat 8 (v.toNat / 2)) (v.getLsbD 0) p := by
  rw [lsrResult, shiftRight_one_eq]

theorem rolResult_eq (v p : Byte) :
    rolResult v p = shifted (BitVec.ofNat 8 (v.toNat * 2 + (getFlag .c p).toNat)) (v.getLsbD 7) p := by
  rw [rolResult, rotateLeft_eq]

theorem rorResult_eq (v p : Byte) :
    rorResult v p = shifted (BitVec.ofNat 8 (v.toNat / 2 + 128 * (getFlag .c p).toNat)) (v.getLsbD 0) p := by
  rw [rorResult, rotateRight_eq]

/-- A read-modify-write instruction on A completes, at its base cycles. -/
theorem modifyInstr_acc (op : Byte) (base : Nat) (f : Byte → Byte → Byte × Byte) (s : State) :
    modifyInstr op base .acc f s = .next (s.apWritten (f s.a s.p) 1 base) := rfl

/-- Settles O27: each accumulator form writes A and P with the result of its shift of A. -/
theorem shiftsOfTheAccumulator : Obligations.ShiftsOfTheAccumulator := by
  intro s i op r c
  dsimp only
  intro h
  obtain ⟨hbyte, f, hexec, hf⟩ : encode i = [op] ∧ ∃ f, (exec i s = modifyInstr op 2 .acc f s) ∧
      f s.a s.p = shifted r c s.p := by
    simp only [List.mem_cons, Prod.mk.injEq, List.not_mem_nil, or_false] at h
    obtain ⟨rfl, rfl, rfl, rfl⟩ | ⟨rfl, rfl, rfl, rfl⟩ | ⟨rfl, rfl, rfl, rfl⟩ | ⟨rfl, rfl, rfl, rfl⟩ := h
    · exact ⟨rfl, _, rfl, aslResult_eq ..⟩
    · exact ⟨rfl, _, rfl, lsrResult_eq ..⟩
    · exact ⟨rfl, _, rfl, rolResult_eq ..⟩
    · exact ⟨rfl, _, rfl, rorResult_eq ..⟩
  obtain ⟨hadv, ha, hflags, hregs, hsp, hmem⟩ := s.apWritten_effect (shifted r c s.p) 1 2
  obtain ⟨hc, hz, hn, hkept⟩ := shifted_flags r c hflags
  exact ⟨hbyte, _, by rw [hexec, modifyInstr_acc, hf], hadv, ha, hc, hz, hn, hkept, hregs, hsp, hmem⟩

/-- Refutes O16: the reading gives 0x00 for 0x06 - 0x00 without a borrow. -/
theorem not_decimalSubtractGivesBcdDifference : ¬ Obligations.DecimalSubtractGivesBcdDifference := by
  intro h
  obtain ⟨-, hdifference⟩ := h 0x06 0x00 true (by decide) (by decide) (by decide) (by decide)
  exact absurd hdifference (by decide)

end Sys2Proof.Machine
end

section
/-! PROOF. Stores (42_load_store_transfer.md R173 to R176), read-modify-writes on memory (44_shift_incdec.md R230 to R236),
branches (45_control_transfer.md R260 to R269), and the flag instructions (46_stack_flags_misc.md R298 to R305). -/

namespace Sys2Proof.Machine

/-! ### One stored byte -/

/-- The state after an instruction of `len` bytes that stores `v` at `k` and leaves `p` in P. -/
def State.stored (k : Word) (v p : Byte) (len cost : Nat) (s : State) : State :=
  complete s.pc cost .none ((memWrite s.pc k v (s.fetched len)).setP p)

/-- The whole effect of a store: one byte, P, and the write hook first on the port. -/
theorem State.stored_effect (k : Word) (v p : Byte) (len cost : Nat) (s : State) :
    let t := s.stored k v p len cost
    Advances s t len cost ∧ memRead t k = v ∧ MemKept [k] s t ∧ RegsKept [] s t ∧ t.p = p ∧ t.sp = s.sp ∧
      (s.port ++ [.write k (memRead s k) v s.pc s.cyc]) <+: t.port := by
  refine ⟨((memWrite_coreUpdate ..).trans (setP_coreUpdate ..)).advances cost .none, ?_, fun j hj => ?_, fun q _ => ?_, ?_, ?_, ?_⟩
  · rw [State.stored, complete_memRead, memRead_setP, memRead_memWrite, if_pos rfl]
  · rw [State.stored, complete_memRead, memRead_setP, memRead_memWrite, if_neg (mt List.mem_singleton.mpr hj)]
    rfl
  · rw [State.stored, complete_reg, State.reg_setP, memWrite_reg]
    exact s.reg_setPc _ q
  · exact complete_p ..
  · exact complete_sp ..
  · rw [State.stored, complete_port, State.setP_port, memWrite_port_eq, List.append_assoc]
    exact ⟨_, rfl⟩

theorem storeInstr_eq_next (op : Byte) (base : Nat) (m : AddrForm) (v : State → Byte) {s : State}
    (hv : v (s.fetched m.length) = v s) :
    storeInstr op base m v s = .next (s.stored (m.ea s) (v s) s.p m.length (base + m.adj s)) := by
  have hea : m.ea (s.fetched m.length) = m.ea s := m.ea_setPc s _
  simp only [storeInstr, instruction]
  rw [← State.fetched, hea, hv]
  rfl

theorem modifyInstr_mem (op : Byte) (base : Nat) (m : AddrForm) (f : Byte → Byte → Byte × Byte) (s : State) :
    modifyInstr op base (.mem m) f s = .next (s.stored (m.ea s) (f (memRead s (m.ea s)) s.p).1
      (f (memRead s (m.ea s)) s.p).2 m.length (base + m.adj s)) := by
  have hea : m.ea (s.fetched m.length) = m.ea s := m.ea_setPc s _
  simp only [modifyInstr, instruction, Target.read, Target.write, Target.length, Target.adj]
  rw [← State.fetched, hea]
  rfl

/-- The instruction of a store form has the form's opcode byte and length, and stores the byte `v`. -/
structure StoreForm.Runs (f : StoreForm) (v : State → Byte) : Prop where
  opcode : (encode f.instr).head? = some f.op
  length : f.addr.length = (encode f.instr).length
  exec_eq (s : State) : exec f.instr s = storeInstr f.op f.base f.addr v s

theorem staForms_run {v : Byte} {a : Word} {f : StoreForm} (h : f ∈ staForms v a) : f.Runs State.a := by
  simp only [staForms, List.mem_cons, List.not_mem_nil, or_false] at h
  obtain rfl | rfl | rfl | rfl | rfl | rfl | rfl | rfl := h <;> exact ⟨rfl, rfl, fun _ => rfl⟩

theorem stxForms_run {v : Byte} {a : Word} {f : StoreForm} (h : f ∈ stxForms v a) : f.Runs State.x := by
  simp only [stxForms, List.mem_cons, List.not_mem_nil, or_false] at h
  obtain rfl | rfl | rfl := h <;> exact ⟨rfl, rfl, fun _ => rfl⟩

theorem styForms_run {v : Byte} {a : Word} {f : StoreForm} (h : f ∈ styForms v a) : f.Runs State.y := by
  simp only [styForms, List.mem_cons, List.not_mem_nil, or_false] at h
  obtain rfl | rfl | rfl := h <;> exact ⟨rfl, rfl, fun _ => rfl⟩

theorem stzForms_run {v : Byte} {a : Word} {f : StoreForm} (h : f ∈ stzForms v a) : f.Runs fun _ => 0x00 := by
  simp only [stzForms, List.mem_cons, List.not_mem_nil, or_false] at h
  obtain rfl | rfl | rfl | rfl := h <;> exact ⟨rfl, rfl, fun _ => rfl⟩

/-- Settles O23: every form of STA, STX, STY and STZ stores its byte, which does not depend on PC, and keeps P. -/
theorem storesWriteOneByte : Obligations.StoresWriteOneByte := by
  intro v a s f b hf
  obtain ⟨w, hrun, hw, rfl⟩ : ∃ w, f.Runs w ∧ w (s.fetched f.addr.length) = w s ∧ b = w s := by
    obtain ⟨hsta, rfl⟩ | ⟨hstx, rfl⟩ | ⟨hsty, rfl⟩ | ⟨hstz, rfl⟩ := hf
    · exact ⟨_, staForms_run hsta, rfl, rfl⟩
    · exact ⟨_, stxForms_run hstx, rfl, rfl⟩
    · exact ⟨_, styForms_run hsty, rfl, rfl⟩
    · exact ⟨_, stzForms_run hstz, rfl, rfl⟩
  exact ⟨hrun.opcode, hrun.length, _, (hrun.exec_eq s).trans (storeInstr_eq_next _ _ _ _ hw), s.stored_effect ..⟩

/-! ### Read-modify-writes on memory -/

/-- The instruction of a read-modify-write form has the form's opcode byte and length, and applies `g`. -/
structure ModifyForm.Runs (f : ModifyForm) (g : Byte → Byte → Byte × Byte) : Prop where
  opcode : (encode f.instr).head? = some f.op
  length : f.dst.length = (encode f.instr).length
  exec_eq (s : State) : exec f.instr s = modifyInstr f.op f.base f.dst g s

theorem aslForms_run {v : Byte} {a : Word} {f : ModifyForm} (h : f ∈ aslForms v a) : f.Runs aslResult := by
  simp only [aslForms, List.mem_cons, List.not_mem_nil, or_false] at h
  obtain rfl | rfl | rfl | rfl | rfl := h <;> exact ⟨rfl, rfl, fun _ => rfl⟩

theorem lsrForms_run {v : Byte} {a : Word} {f : ModifyForm} (h : f ∈ lsrForms v a) : f.Runs lsrResult := by
  simp only [lsrForms, List.mem_cons, List.not_mem_nil, or_false] at h
  obtain rfl | rfl | rfl | rfl | rfl := h <;> exact ⟨rfl, rfl, fun _ => rfl⟩

theorem rolForms_run {v : Byte} {a : Word} {f : ModifyForm} (h : f ∈ rolForms v a) : f.Runs rolResult := by
  simp only [rolForms, List.mem_cons, List.not_mem_nil, or_false] at h
  obtain rfl | rfl | rfl | rfl | rfl := h <;> exact ⟨rfl, rfl, fun _ => rfl⟩

theorem rorForms_run {v : Byte} {a : Word} {f : ModifyForm} (h : f ∈ rorForms v a) : f.Runs rorResult := by
  simp only [rorForms, List.mem_cons, List.not_mem_nil, or_false] at h
  obtain rfl | rfl | rfl | rfl | rfl := h <;> exact ⟨rfl, rfl, fun _ => rfl⟩

theorem incForms_run {v : Byte} {a : Word} {f : ModifyForm} (h : f ∈ incForms v a) : f.Runs incResult := by
  simp only [incForms, List.mem_cons, List.not_mem_nil, or_false] at h
  obtain rfl | rfl | rfl | rfl := h <;> exact ⟨rfl, rfl, fun _ => rfl⟩

theorem decForms_run {v : Byte} {a : Word} {f : ModifyForm} (h : f ∈ decForms v a) : f.Runs decResult := by
  simp only [decForms, List.mem_cons, List.not_mem_nil, or_false] at h
  obtain rfl | rfl | rfl | rfl := h <;> exact ⟨rfl, rfl, fun _ => rfl⟩

/-- A byte with Z and N from it is a shift that shifts off the carry there was. -/
theorem setZN_eq_shifted (r p : Byte) : (r, setZN r p) = shifted r (getFlag .c p) p := by
  have hp : putFlag .c (getFlag .c p) p = p := status_ext fun f => by
    rw [getFlag_putFlag]
    split
    · next h => rw [h]
    · rfl
  rw [shifted, hp]

theorem incResult_eq (v p : Byte) : incResult v p = shifted (BitVec.ofNat 8 (v.toNat + 1)) (getFlag .c p) p := by
  have hv : v + 1 = BitVec.ofNat 8 (v.toNat + 1) := BitVec.eq_of_toNat_eq (byte_add_one_toNat v)
  rw [incResult, hv, setZN_eq_shifted]

theorem decResult_eq (v p : Byte) : decResult v p = shifted (BitVec.ofNat 8 (v.toNat + 255)) (getFlag .c p) p := by
  have hv : v - 1 = BitVec.ofNat 8 (v.toNat + 255) := BitVec.eq_of_toNat_eq (byte_sub_one_toNat v)
  rw [decResult, hv, setZN_eq_shifted]

/-- Settles O26: every memory form stores the result of its function, which is a shift with its carry, or keeps the carry. -/
theorem readModifyWriteMemory : Obligations.ReadModifyWriteMemory := by
  intro v a s f m r c hdst
  dsimp only
  intro hf
  obtain ⟨g, hrun, hg⟩ : ∃ g, f.Runs g ∧ g (memRead s (m.ea s)) s.p = shifted r c s.p := by
    obtain ⟨h, rfl, rfl⟩ | ⟨h, rfl, rfl⟩ | ⟨h, rfl, rfl⟩ | ⟨h, rfl, rfl⟩ | ⟨h, rfl, rfl⟩ | ⟨h, rfl, rfl⟩ := hf
    · exact ⟨_, aslForms_run h, aslResult_eq ..⟩
    · exact ⟨_, lsrForms_run h, lsrResult_eq ..⟩
    · exact ⟨_, rolForms_run h, rolResult_eq ..⟩
    · exact ⟨_, rorForms_run h, rorResult_eq ..⟩
    · exact ⟨_, incForms_run h, incResult_eq ..⟩
    · exact ⟨_, decForms_run h, decResult_eq ..⟩
  have hlen : m.length = (encode f.instr).length := by rw [← hrun.length, hdst, Target.length]
  obtain ⟨hadv, hread, hmem, hregs, hp, hsp, hport⟩ :=
    s.stored_effect (m.ea s) r (shifted r c s.p).2 m.length (f.base + m.adj s)
  obtain ⟨hc, hz, hn, hkept⟩ := shifted_flags r c (s := s) fun f => congrArg (getFlag f) hp
  refine ⟨hrun.opcode, hlen, _, ?_, hadv, hread, hmem, hc, hz, hn, hkept, hregs, hsp, hport⟩
  rw [hrun.exec_eq, hdst, modifyInstr_mem, hg, shifted_fst]

/-! ### Branches -/

/-- A branch target as a number: the signed offset is added modulo 65536 (decision D35). -/
theorem add_sext16 (pc : Word) (r : Byte) : pc + sext16 r = BitVec.ofInt 16 (pc.toNat + r.toInt) := by
  rw [BitVec.ofInt_add, BitVec.ofInt_natCast, BitVec.ofNat_toNat, BitVec.setWidth_eq]
  rfl

theorem branchInstr_taken (op : Byte) (c : State → Bool) (r : Byte) {s : State} (h : c (s.fetched 2) = true) :
    branchInstr op 2 c r s =
      .next (s.jumped (s.pc + 2 + sext16 r) (2 + (1 + cross (s.pc + 2) (s.pc + 2 + sext16 r)))) := by
  simp only [branchInstr, instruction]
  rw [← State.fetched, branchEffect_eq, if_pos h]
  rfl

theorem branchInstr_not_taken (op : Byte) (c : State → Bool) (r : Byte) {s : State} (h : c (s.fetched 2) = false) :
    branchInstr op 2 c r s = .next (complete s.pc 2 .none (s.fetched 2)) := by
  simp only [branchInstr, instruction]
  rw [← State.fetched, branchEffect_eq, if_neg (by rw [h]; exact Bool.false_ne_true)]
  rfl

/-- The cost of a taken branch (R260, decision D12). -/
theorem taken_cost (pc target : Word) :
    2 + (1 + cross pc target) = if pc.toNat / 4096 = target.toNat / 4096 then 3 else 4 := by
  rw [cross_eq]
  split <;> rfl

/-- Settles O29: a branch is a jump when its condition holds, and only advances when it does not. -/
theorem branchesAddTheOffset : Obligations.BranchesAddTheOffset := by
  intro r s i op taken h
  obtain ⟨hop, hlen, c, hexec, hc⟩ : (encode i).head? = some op ∧ (encode i).length = 2 ∧
      ∃ c, exec i s = branchInstr op 2 c r s ∧ c (s.fetched 2) = taken := by
    obtain ⟨f, sense, hmem, rfl⟩ | ⟨rfl, rfl, rfl⟩ := h
    · have hclear (f : Flag) : (!s.flag f) = (s.flag f == false) := by cases s.flag f <;> rfl
      have hset (f : Flag) : s.flag f = (s.flag f == true) := by cases s.flag f <;> rfl
      simp only [branchForms, List.mem_cons, Prod.mk.injEq, List.not_mem_nil, or_false] at hmem
      obtain ⟨rfl, rfl, rfl, rfl⟩ | ⟨rfl, rfl, rfl, rfl⟩ | ⟨rfl, rfl, rfl, rfl⟩ | ⟨rfl, rfl, rfl, rfl⟩ |
        ⟨rfl, rfl, rfl, rfl⟩ | ⟨rfl, rfl, rfl, rfl⟩ | ⟨rfl, rfl, rfl, rfl⟩ | ⟨rfl, rfl, rfl, rfl⟩ := hmem
      · exact ⟨rfl, rfl, _, rfl, hclear .c⟩
      · exact ⟨rfl, rfl, _, rfl, hset .c⟩
      · exact ⟨rfl, rfl, _, rfl, hset .z⟩
      · exact ⟨rfl, rfl, _, rfl, hset .n⟩
      · exact ⟨rfl, rfl, _, rfl, hclear .z⟩
      · exact ⟨rfl, rfl, _, rfl, hclear .n⟩
      · exact ⟨rfl, rfl, _, rfl, hclear .v⟩
      · exact ⟨rfl, rfl, _, rfl, hset .v⟩
    · exact ⟨rfl, rfl, fun _ => true, rfl, rfl⟩
  refine ⟨hop, hlen, ?_⟩
  rw [hexec, ← add_sext16, ← taken_cost]
  cases taken with
  | true =>
    obtain ⟨hpc, hacc, hshadow, hcalls, hp, hsp, hregs, hmem⟩ :=
      s.jumped_effect (s.pc + 2 + sext16 r) (2 + (1 + cross (s.pc + 2) (s.pc + 2 + sext16 r)))
    exact ⟨_, branchInstr_taken op c r hc, fun _ => ⟨hpc, hshadow, hcalls, hacc⟩, nofun, hp, hsp, hregs, hmem⟩
  | false =>
    exact ⟨_, branchInstr_not_taken op c r hc, nofun, fun _ => (CoreUpdate.refl _).advances 2 .none, complete_p ..,
      complete_sp .., fun q _ => (complete_reg ..).trans (s.reg_setPc _ q), fun _ _ => complete_memRead ..⟩

/-! ### Flag instructions and NOP -/

theorem impliedInstr_setFlag (op : Byte) (base : Nat) (f : Flag) (on : Bool) (s : State) :
    impliedInstr op base (fun s1 => s1.setFlag f on) s = .next (s.statusWritten (putFlag f on s.p) 1 base) := rfl

/-- Settles O39: a flag instruction writes P with its one flag, and NOP writes it as it was. -/
theorem flagInstructionsWriteOneFlag : Obligations.FlagInstructionsWriteOneFlag := by
  refine ⟨fun s ⟨i, op, g, on⟩ hf => ?_, rfl, fun s => ?_⟩
  · obtain ⟨hbyte, hexec⟩ : encode i = [op] ∧ exec i s = impliedInstr op 2 (fun s1 => s1.setFlag g on) s := by
      simp only [flagForms, List.mem_cons, Prod.mk.injEq, List.not_mem_nil, or_false] at hf
      obtain ⟨rfl, rfl, rfl, rfl⟩ | ⟨rfl, rfl, rfl, rfl⟩ | ⟨rfl, rfl, rfl, rfl⟩ | ⟨rfl, rfl, rfl, rfl⟩ |
        ⟨rfl, rfl, rfl, rfl⟩ | ⟨rfl, rfl, rfl, rfl⟩ | ⟨rfl, rfl, rfl, rfl⟩ := hf
      all_goals exact ⟨rfl, rfl⟩
    refine ⟨hbyte, _, hexec.trans (impliedInstr_setFlag ..), s.statusWritten_advances .., ?_, fun f hf => ?_,
      s.statusWritten_frame ..⟩
    · rw [State.statusWritten_flag, getFlag_putFlag, if_pos rfl]
    · rw [State.statusWritten_flag, getFlag_putFlag, if_neg (mt List.mem_singleton.mpr hf), State.flag]
  · have hnop : exec .nop s = .next (s.statusWritten s.p 1 2) := rfl
    exact ⟨_, hnop, s.statusWritten_advances .., complete_p .., s.statusWritten_frame ..⟩

end Sys2Proof.Machine
end

section
/-! PROOF. PHP and PLP (46_stack_flags_misc.md R291, R295), JSR, RTS and RTI (45_control_transfer.md R271 to R273), and nested
calls (47_tracer_profiler.md R326). -/

namespace Sys2Proof.Machine

/-! ### PHP and PLP -/

theorem phpByte_eq (rule : PhpB) (p : Byte) : phpByte rule p = if rule = .forceSet then p ||| 0x10 else p := by
  cases rule <;> rfl

theorem exec_php {s : State} (h : s.sp ≠ 0x00) : exec .php s = .next (s.pushed (phpByte s.cfg.phpB s.p) 3) :=
  stackInstr_ok (f := fun pc0 s1 => push pc0 (phpByte s1.cfg.phpB s1.p) s1) (push_ok (s := s.fetched 1) h)

/-- Settles O36: PHP is the push of its byte, which fails before the write at SP = 0x00. -/
theorem phpPushesTheStatus : Obligations.PhpPushesTheStatus := by
  refine ⟨rfl, fun s => ?_⟩
  rw [← stackAddr_eq, ← phpByte_eq]
  exact ⟨fun hsp => ⟨_, exec_php hsp, State.pushed_effect _ 3 hsp⟩,
    fun hsp => stackInstr_raises (base := 3) (f := fun pc0 s1 => push pc0 (phpByte s1.cfg.phpB s1.p) s1) (push_fatal hsp)⟩

/-- The state after PLP: P is the popped byte with bit 5 set. -/
def State.statusPulled (s : State) : State :=
  complete s.pc 4 .none (((s.fetched 1).setSp (s.sp + 1)).setP (memRead s (stackAddr (s.sp + 1)) ||| 0x20))

theorem pullStatus_ok {s : State} (h : s.sp ≠ 0xFF) :
    pullStatus s = .ok () ((s.setSp (s.sp + 1)).setP (memRead s (stackAddr (s.sp + 1)) ||| 0x20)) := by
  rw [pullStatus, pop_ok h, Eff.bind_ok]

theorem pullStatus_fatal {s : State} (h : s.sp = 0xFF) : pullStatus s = .fatal .stackUnderrun s := by
  rw [pullStatus, pop_fatal h, Eff.bind_fatal]

theorem State.statusPulled_flag (s : State) (f : Flag) :
    s.statusPulled.flag f = if f = .u then true else getFlag f (memRead s (stackAddr (s.sp + 1))) := by
  rw [State.statusPulled, complete_flag, State.flag_setP, getFlag_or_bit5]

/-- Settles O38: PLP pops a byte into P, which fails before SP changes at SP = 0xFF. -/
theorem plpLoadsTheStatus : Obligations.PlpLoadsTheStatus := by
  refine ⟨rfl, fun s => ⟨fun hsp => ?_, fun hsp => ?_⟩⟩
  · refine ⟨s.statusPulled, stackInstr_ok (f := fun _ => pullStatus) (pullStatus_ok (s := s.fetched 1) hsp),
      ((setSp_coreUpdate ..).trans (setP_coreUpdate ..)).advances 4 .none, ?_, fun f hf => ?_, fun q _ => ?_, ?_, fun k _ => ?_⟩
    · rw [State.statusPulled_flag, if_pos rfl]
    · rw [State.statusPulled_flag, if_neg hf, Nat.add_assoc, ← stackAddr_succ hsp]
    · rw [State.statusPulled, complete_reg, State.reg_setP, State.reg_setSp]
      exact s.reg_setPc _ q
    · rw [State.statusPulled, complete_sp]
      exact sp_succ_toNat hsp
    · exact complete_memRead ..
  · exact stackInstr_raises (base := 4) (f := fun _ => pullStatus) (pullStatus_fatal hsp)

/-! ### Stack pointers two and three away -/

theorem sp_room_two {sp : Byte} (h : 2 ≤ sp.toNat) : sp ≠ 0x00 ∧ sp - 1 ≠ 0x00 ∧ (sp - 1 - 1).toNat = sp.toNat - 2 := by
  have h0 : sp ≠ 0x00 := by
    rintro rfl
    exact absurd h (by decide)
  have h1 := sp_pred_toNat h0
  have h0' : sp - 1 ≠ 0x00 := by
    intro e
    rw [e] at h1
    simp at h1
    omega
  refine ⟨h0, h0', ?_⟩
  rw [sp_pred_toNat h0', h1]
  omega

theorem stackAddr_pred {sp : Byte} (h : sp ≠ 0x00) : stackAddr (sp - 1) = BitVec.ofNat 16 (0x0100 + sp.toNat - 1) := by
  have hne : sp.toNat ≠ 0 := fun e => h (BitVec.eq_of_toNat_eq e)
  rw [stackAddr_eq, sp_pred_toNat h]
  congr 1
  omega

/-- The two stack pointers above one that leaves room for two bytes. -/
theorem sp_above_two {sp : Byte} (h : sp.toNat ≤ 0xFD) : sp ≠ 0xFF ∧ sp + 1 ≠ 0xFF ∧ (sp + 1 + 1).toNat = sp.toNat + 2 := by
  have h0 : sp ≠ 0xFF := by
    rintro rfl
    exact absurd h (by decide)
  have h1 := sp_succ_toNat h0
  have h0' : sp + 1 ≠ 0xFF := by
    intro e
    rw [e] at h1
    simp at h1
    omega
  exact ⟨h0, h0', by rw [sp_succ_toNat h0', h1]⟩

/-! ### JSR -/

/-- The state after JSR with room for two bytes. -/
def State.called (a : Word) (s : State) : State :=
  complete s.pc 6 (.jsr a) ((shadowCall a s.sp ((s.fetched 3).pushedWord s.pc (s.pc + 2))).setPc a)

/-- The address JSR pushes is that of its last byte. -/
theorem fetched_three_pc (s : State) : (s.fetched 3).pc - 1 = s.pc + 2 := by
  rw [State.fetched, State.setPc_pc, BitVec.sub_eq_add_neg, BitVec.add_assoc]
  rfl

theorem exec_jsr (a : Word) {s : State} (h : 2 ≤ s.sp.toNat) : exec (.jsr a) s = .next (s.called a) := by
  obtain ⟨h0, h1, -⟩ := sp_room_two h
  have e := jsrEffect_ok s.pc a (s := s.fetched 3) h0 h1
  rw [fetched_three_pc, State.fetched] at e
  simp only [exec, execJsr, instruction, e]
  rfl

theorem exec_jsr_fatal_second (a : Word) {s : State} (h : s.sp = 0x01) : exec (.jsr a) s =
    .next (raiseFatal .stackOverflow s.pc 0x20 ((memWrite s.pc 0x0101 (highByte (s.pc + 2)) (s.fetched 3)).setSp 0x00)) := by
  have e := jsrEffect_fatal_second s.pc a (s := s.fetched 3) (by rw [State.fetched, State.setPc_sp, h]; decide)
    (by rw [State.fetched, State.setPc_sp, h]; rfl)
  rw [fetched_three_pc, State.fetched, State.setPc_sp, h] at e
  simp only [exec, execJsr, instruction, e]
  rfl

theorem exec_jsr_fatal_first (a : Word) {s : State} (h : s.sp = 0x00) :
    exec (.jsr a) s = .next (raiseFatal .stackOverflow s.pc 0x20 (s.fetched 3)) := by
  have e := jsrEffect_fatal_first s.pc a (s := s.fetched 3) h
  rw [State.fetched] at e
  simp only [exec, execJsr, instruction, e]
  rfl

theorem memRead_called (a k : Word) (s : State) : memRead (s.called a) k =
    if k = stackAddr (s.sp - 1) then lowByte (s.pc + 2) else if k = stackAddr s.sp then highByte (s.pc + 2) else
      memRead s k := by
  rw [State.called, complete_memRead, memRead_setPc, shadowCall_memRead, memRead_pushedWord]
  rfl

theorem State.called_shadow (a : Word) (s : State) : (s.called a).shadow =
    if s.shadow.length < s.cfg.shadowDepth then ⟨a, s.sp⟩ :: s.shadow else s.shadow := by
  rw [State.called, complete_shadow, State.setPc_shadow, shadowCall_shadow]
  rfl

theorem State.called_sp (a : Word) (s : State) : (s.called a).sp = s.sp - 1 - 1 := by
  rw [State.called, complete_sp, State.setPc_sp, shadowCall_sp]
  rfl

theorem State.called_p (a : Word) (s : State) : (s.called a).p = s.p := by
  rw [State.called, complete_p, State.setPc_p, shadowCall_p]
  rfl

theorem State.called_reg (a : Word) (s : State) (q : Reg) : (s.called a).reg q = s.reg q := by
  rw [State.called, complete_reg, State.reg_setPc, shadowCall_reg]
  cases q <;> rfl

theorem State.called_rcalls (a k : Word) (s : State) : cellGet (s.called a).rcalls k.toNat =
    if k = a then cellGet s.rcalls k.toNat + 1 else cellGet s.rcalls k.toNat := by
  rw [State.called, complete_rcalls, State.setPc_rcalls, shadowCall_rcalls, cellGet_cellPut]
  by_cases h : k = a
  · rw [h, if_pos rfl, if_pos rfl]
    rfl
  · have h' : k.toNat ≠ a.toNat := fun e => h (BitVec.eq_of_toNat_eq e)
    rw [if_neg h, if_neg h']
    rfl

theorem State.called_accounted (a : Word) (s : State) : Accounted s (s.called a) 6 := by
  unfold State.called
  apply complete_accounted <;> simp [State.pushedWord, State.fetched]

/-- Settles O31: JSR with room for both bytes, for one, and for none. -/
theorem jsrPushesTheReturnAddress : Obligations.JsrPushesTheReturnAddress := by
  intro a s
  refine ⟨⟨rfl, rfl⟩, fun hsp => ?_, fun hsp => ?_, fun hsp => ?_⟩
  · obtain ⟨h0, -, h2⟩ := sp_room_two hsp
    have hne : stackAddr s.sp ≠ stackAddr (s.sp - 1) := mt (stackAddr_inj _ _).mp (sp_sub_one_ne s.sp).symm
    rw [← stackAddr_eq, ← stackAddr_pred h0]
    refine ⟨_, exec_jsr a hsp, complete_pc .., by rw [State.called_sp, h2], ?_, ?_, fun k hk => ?_, s.called_shadow a,
      fun k => s.called_rcalls a k, s.called_accounted a, s.called_p a, fun q _ => s.called_reg a q⟩
    · rw [memRead_called, if_neg hne, if_pos rfl, highByte_toNat]
    · rw [memRead_called, if_pos rfl, lowByte_toNat]
    · obtain ⟨hhigh, hlow⟩ : k ≠ stackAddr s.sp ∧ k ≠ stackAddr (s.sp - 1) := by simpa using hk
      rw [memRead_called, if_neg hlow, if_neg hhigh]
  · have hcore : CoreUpdate (s.fetched 3) ((memWrite s.pc 0x0101 (highByte (s.pc + 2)) (s.fetched 3)).setSp 0x00) :=
      (memWrite_coreUpdate ..).trans (setSp_coreUpdate ..)
    refine ⟨_, exec_jsr_fatal_second a hsp, hcore.raises (fun q _ => ?_) (fun f _ => rfl) .stackOverflow 0x20, ?_, fun k hk => ?_⟩
    · rw [State.reg_setSp, memWrite_reg]
      exact s.reg_setPc _ q
    · rw [raiseFatal_memRead, memRead_setSp, memRead_memWrite, if_pos rfl, highByte_toNat]
    · rw [raiseFatal_memRead, memRead_setSp, memRead_memWrite, if_neg (mt List.mem_singleton.mpr hk)]
      rfl
  · exact ⟨_, exec_jsr_fatal_first a hsp, (CoreUpdate.refl _).raises (fun q _ => s.reg_setPc _ q) (fun f _ => rfl) ..,
      fun _ _ => rfl⟩

/-! ### RTS -/

/-- The state after RTS with two bytes to pop. -/
def State.returned (s : State) : State :=
  complete s.pc 6 .rts (shadowReturn s.sp (((s.fetched 1).setSp (s.sp + 1 + 1)).setPc
    (wordOf (memRead s (stackAddr (s.sp + 1 + 1))) (memRead s (stackAddr (s.sp + 1))) + 1)))

theorem exec_rts {s : State} (h : s.sp.toNat ≤ 0xFD) : exec .rts s = .next s.returned := by
  obtain ⟨h0, h1, -⟩ := sp_above_two h
  have e := rtsEffect_ok (s := s.fetched 1) h0 h1
  rw [State.fetched] at e
  simp only [exec, execRts, instruction, e]
  rfl

theorem exec_rts_fatal {s : State} (h : s.sp = 0xFF ∨ s.sp + 1 = 0xFF) :
    ∃ sp, exec .rts s = .next (raiseFatal .stackUnderrun s.pc 0x60 ((s.fetched 1).setSp sp)) := by
  obtain ⟨sp, e⟩ := rtsEffect_fatal (s := s.fetched 1) h
  rw [State.fetched] at e
  refine ⟨sp, ?_⟩
  simp only [exec, execRts, instruction, e]
  rfl

theorem State.returned_sp (s : State) : s.returned.sp = s.sp + 1 + 1 := by
  rw [State.returned, complete_sp, shadowReturn_sp]
  rfl

theorem State.returned_p (s : State) : s.returned.p = s.p := by
  rw [State.returned, complete_p, shadowReturn_p]
  rfl

theorem State.returned_reg (s : State) (q : Reg) : s.returned.reg q = s.reg q := by
  rw [State.returned, complete_reg, shadowReturn_reg]
  cases q <;> rfl

theorem memRead_returned (s : State) (k : Word) : memRead s.returned k = memRead s k := by
  rw [State.returned, complete_memRead, shadowReturn_memRead]
  rfl

theorem State.returned_pc (s : State) : s.returned.pc =
    wordOf (memRead s (stackAddr (s.sp + 1 + 1))) (memRead s (stackAddr (s.sp + 1))) + 1 := by
  rw [State.returned, complete_pc, shadowReturn_pc, State.setPc_pc]

theorem State.returned_accounted (s : State) : Accounted s s.returned 6 := by
  unfold State.returned
  apply complete_accounted <;> simp [State.fetched]

theorem State.returned_rcalls (s : State) : s.returned.rcalls = s.rcalls := by
  rw [State.returned, complete_rcalls, shadowReturn_rcalls]
  rfl

theorem State.returned_shadow_match {s : State} {f : Frame} {rest : List Frame} (h : s.shadow = f :: rest)
    (hsp : f.sp.toNat = s.sp.toNat + 2) : s.returned.shadow = rest := by
  have hshadow : (((s.fetched 1).setSp (s.sp + 1 + 1)).setPc
      (wordOf (memRead s (stackAddr (s.sp + 1 + 1))) (memRead s (stackAddr (s.sp + 1))) + 1)).shadow = f :: rest := h
  rw [State.returned, complete_shadow, shadowReturn_shadow, hshadow]
  exact if_pos hsp

theorem State.returned_shadow_mismatch {s : State} (h : ∀ f ∈ s.shadow.head?, f.sp.toNat ≠ s.sp.toNat + 2) :
    s.returned.shadow = s.shadow := by
  have hshadow : (((s.fetched 1).setSp (s.sp + 1 + 1)).setPc
      (wordOf (memRead s (stackAddr (s.sp + 1 + 1))) (memRead s (stackAddr (s.sp + 1))) + 1)).shadow = s.shadow := rfl
  rw [State.returned, complete_shadow, shadowReturn_shadow, hshadow]
  cases hs : s.shadow with
  | nil => rfl
  | cons f rest => exact if_neg (h f (by rw [hs]; rfl))

/-- A word and one more, as a number of two bytes. -/
theorem wordOf_add_one (hi lo : Byte) : wordOf hi lo + 1 = BitVec.ofNat 16 (256 * hi.toNat + lo.toNat + 1) := by
  rw [word_add_one_eq_ofNat, wordOf_toNat]

theorem wordOf_eq_ofNat (hi lo : Byte) : wordOf hi lo = BitVec.ofNat 16 (256 * hi.toNat + lo.toNat) := by
  rw [← wordOf_toNat, BitVec.ofNat_toNat, BitVec.setWidth_eq]

/-- Settles O32: RTS with both bytes to pop, and with fewer. -/
theorem rtsPopsTheReturnAddress : Obligations.RtsPopsTheReturnAddress := by
  refine ⟨rfl, fun s => ⟨fun hsp => ?_, fun hsp => ?_⟩⟩
  · obtain ⟨h0, h1, h2⟩ := sp_above_two hsp
    have hlow : stackAddr (s.sp + 1) = BitVec.ofNat 16 (0x0100 + s.sp.toNat + 1) := stackAddr_succ h0
    have hhigh : stackAddr (s.sp + 1 + 1) = BitVec.ofNat 16 (0x0100 + s.sp.toNat + 2) := by
      rw [stackAddr_eq, h2, Nat.add_assoc]
    rw [← hlow, ← hhigh]
    exact ⟨_, 6, exec_rts hsp, by rw [State.returned_pc, wordOf_add_one], by rw [State.returned_sp, h2],
      fun f rest => State.returned_shadow_match, State.returned_shadow_mismatch, s.returned_rcalls, s.returned_accounted,
      s.returned_p, fun q _ => s.returned_reg q, fun k _ => memRead_returned s k⟩
  · obtain ⟨sp, e⟩ := exec_rts_fatal (s := s) (by bv_omega)
    have hcore : CoreUpdate (s.fetched 1) ((s.fetched 1).setSp sp) := setSp_coreUpdate ..
    exact ⟨_, e, hcore.raises (fun q _ => (State.reg_setSp ..).trans (s.reg_setPc _ q)) (fun f _ => rfl) .., fun _ _ => rfl⟩

/-! ### RTI -/

/-- The state after RTI with three bytes to pop. -/
def State.restored (s : State) : State :=
  complete s.pc 6 .none ((((s.fetched 1).setSp (s.sp + 1 + 1 + 1)).setP (memRead s (stackAddr (s.sp + 1)) ||| 0x20)).setPc
    (wordOf (memRead s (stackAddr (s.sp + 1 + 1 + 1))) (memRead s (stackAddr (s.sp + 1 + 1)))))

theorem pullStatusAndPc_ok {s : State} (h0 : s.sp ≠ 0xFF) (h1 : s.sp + 1 ≠ 0xFF) (h2 : s.sp + 1 + 1 ≠ 0xFF) :
    pullStatusAndPc s = .ok () (((s.setSp (s.sp + 1 + 1 + 1)).setP (memRead s (stackAddr (s.sp + 1)) ||| 0x20)).setPc
      (wordOf (memRead s (stackAddr (s.sp + 1 + 1 + 1))) (memRead s (stackAddr (s.sp + 1 + 1))))) := by
  simp only [pullStatusAndPc, pop_ok h0, Eff.bind_ok]
  rw [pop_ok h1, Eff.bind_ok, pop_ok h2, Eff.bind_ok]
  rfl

theorem pullStatusAndPc_fatal {s : State} (h : s.sp = 0xFF ∨ s.sp + 1 = 0xFF ∨ s.sp + 1 + 1 = 0xFF) :
    ∃ sp, pullStatusAndPc s = .fatal .stackUnderrun (s.setSp sp) := by
  by_cases h0 : s.sp = 0xFF
  · exact ⟨s.sp, by rw [pullStatusAndPc, pop_fatal h0]; rfl⟩
  · simp only [pullStatusAndPc, pop_ok h0, Eff.bind_ok]
    by_cases h1 : s.sp + 1 = 0xFF
    · exact ⟨s.sp + 1, by rw [pop_fatal h1]; rfl⟩
    · refine ⟨s.sp + 1 + 1, ?_⟩
      rw [pop_ok h1, Eff.bind_ok, pop_fatal ((h.resolve_left h0).resolve_left h1)]
      rfl

theorem State.restored_accounted (s : State) : Accounted s s.restored 6 := by
  unfold State.restored
  apply complete_accounted <;> simp [State.fetched]

/-- Settles O33: RTI with three bytes to pop, and with fewer. -/
theorem rtiPopsStatusAndPc : Obligations.RtiPopsStatusAndPc := by
  refine ⟨rfl, fun s => ⟨fun hsp => ?_, fun hsp => ?_⟩⟩
  · obtain ⟨h0, h1, h2⟩ := sp_above_two (Nat.le_succ_of_le hsp)
    have h2' : s.sp + 1 + 1 ≠ 0xFF := by bv_omega
    have h3 : (s.sp + 1 + 1 + 1).toNat = s.sp.toNat + 3 := by rw [sp_succ_toNat h2', h2]
    have hp : stackAddr (s.sp + 1) = BitVec.ofNat 16 (0x0100 + s.sp.toNat + 1) := stackAddr_succ h0
    have hlow : stackAddr (s.sp + 1 + 1) = BitVec.ofNat 16 (0x0100 + s.sp.toNat + 2) := by
      rw [stackAddr_eq, h2, Nat.add_assoc]
    have hhigh : stackAddr (s.sp + 1 + 1 + 1) = BitVec.ofNat 16 (0x0100 + s.sp.toNat + 3) := by
      rw [stackAddr_eq, h3, Nat.add_assoc]
    rw [← hp, ← hlow, ← hhigh]
    refine ⟨s.restored, stackInstr_ok (f := fun _ => pullStatusAndPc) (pullStatusAndPc_ok (s := s.fetched 1) h0 h1 h2'),
      complete_p .., ?_, ?_, complete_shadow .., complete_rcalls .., s.restored_accounted, fun q _ => ?_,
      fun _ _ => complete_memRead ..⟩
    · rw [State.restored, complete_pc, State.setPc_pc, wordOf_eq_ofNat]
    · rw [State.restored, complete_sp]
      exact h3
    · rw [State.restored, complete_reg]
      cases q <;> rfl
  · obtain ⟨sp, e⟩ := pullStatusAndPc_fatal (s := s.fetched 1) (show s.sp = 0xFF ∨ s.sp + 1 = 0xFF ∨ s.sp + 1 + 1 = 0xFF by bv_omega)
    have hcore : CoreUpdate (s.fetched 1) ((s.fetched 1).setSp sp) := setSp_coreUpdate ..
    exact ⟨_, stackInstr_fatal (base := 6) (f := fun _ => pullStatusAndPc) e,
      hcore.raises (fun q _ => (State.reg_setSp ..).trans (s.reg_setPc _ q)) (fun f _ => rfl) .., fun _ _ => rfl⟩

end Sys2Proof.Machine
end

section
/-! PROOF. Nested calls (47_tracer_profiler.md R326), the enclosing routine (R330) and the watch records (R327 to R330). -/

namespace Sys2Proof.Machine

/-! ### Nested calls -/

theorem execAll_append (l l' : List Instr) {s t : State} (h : execAll l s = some t) :
    execAll (l ++ l') s = execAll l' t := by
  induction l generalizing s with
  | nil =>
    obtain rfl := Option.some.inj h
    rfl
  | cons i l ih =>
    simp only [execAll, List.cons_append] at h ⊢
    cases hexec : exec i s with
    | next u =>
      simp only [hexec] at h ⊢
      split at h
      · next hrun => rw [if_pos hrun, ih h]
      · cases h
    | fault r => simp [hexec] at h
    | refused r => simp [hexec] at h

/-- What nested calls and their returns keep: everything a caller can rely on but PC. -/
structure CallsKeep (s t : State) : Prop where
  run : t.run = s.run
  sp : t.sp = s.sp
  shadow : t.shadow = s.shadow
  cfg : t.cfg = s.cfg
  p : t.p = s.p
  reg (q : Reg) : t.reg q = s.reg q
  above (k : Byte) : s.sp.toNat < k.toNat → memRead t (stackAddr k) = memRead s (stackAddr k)

/-- A return with what the call left, after anything that keeps it: back to one past the call, as before it. -/
theorem returned_of_called {a : Word} {s u : State} (hsp : 2 ≤ s.sp.toNat) (hroom : s.shadow.length < s.cfg.shadowDepth)
    (h : CallsKeep (s.called a) u) :
    exec .rts u = .next u.returned ∧ CallsKeep s u.returned ∧ u.returned.pc = s.pc + 3 := by
  obtain ⟨h0, h1, h2⟩ := sp_room_two hsp
  have hcsp : (s.called a).sp = s.sp - 1 - 1 := s.called_sp a
  have husp : u.sp = s.sp - 1 - 1 := h.sp.trans hcsp
  have hup1 : u.sp + 1 = s.sp - 1 := by rw [husp]; exact BitVec.sub_add_cancel ..
  have hup2 : u.sp + 1 + 1 = s.sp := by rw [hup1]; exact BitVec.sub_add_cancel ..
  have hpred := sp_pred_toNat h0
  have hshadow : u.shadow = ⟨a, s.sp⟩ :: s.shadow := by rw [h.shadow, State.called_shadow, if_pos hroom]
  have hlow : memRead u (stackAddr (u.sp + 1)) = lowByte (s.pc + 2) := by
    rw [hup1, h.above (s.sp - 1) (by rw [hcsp, h2]; omega), memRead_called, if_pos rfl]
  have hhigh : memRead u (stackAddr (u.sp + 1 + 1)) = highByte (s.pc + 2) := by
    rw [hup2, h.above s.sp (by rw [hcsp, h2]; omega), memRead_called,
      if_neg (mt (stackAddr_inj _ _).mp (sp_sub_one_ne s.sp).symm), if_pos rfl]
  refine ⟨exec_rts (by rw [husp, h2]; omega), ⟨?_, ?_, ?_, ?_, ?_, fun q => ?_, fun k hk => ?_⟩, ?_⟩
  · rw [u.returned_accounted.run, h.run, (s.called_accounted a).run]
  · rw [State.returned_sp, hup2]
  · exact State.returned_shadow_match hshadow (by rw [husp, h2]; exact (Nat.sub_add_cancel hsp).symm)
  · rw [u.returned_accounted.cfg, h.cfg, (s.called_accounted a).cfg]
  · rw [State.returned_p, h.p, State.called_p]
  · rw [State.returned_reg, h.reg, State.called_reg]
  · have hne (sp : Byte) (hle : sp.toNat ≤ s.sp.toNat) : stackAddr k ≠ stackAddr sp := by
      rw [ne_eq, stackAddr_inj]
      rintro rfl
      omega
    rw [memRead_returned, h.above k (by rw [hcsp, h2]; omega), memRead_called, if_neg (hne _ (by omega)),
      if_neg (hne _ (Nat.le_refl _))]
  · rw [State.returned_pc, hhigh, hlow, wordOf_high_low, BitVec.add_assoc]
    rfl

/-- Nested calls and their returns, with the stack bytes above them kept so that an outer return finds its own. -/
theorem execAll_nested (targets : List Word) {s : State} (hrun : s.run = .running) (hsp : 2 * targets.length ≤ s.sp.toNat)
    (hroom : s.shadow.length + targets.length ≤ s.cfg.shadowDepth) :
    ∃ t, execAll (targets.map Instr.jsr ++ List.replicate targets.length .rts) s = some t ∧ CallsKeep s t ∧
      (targets ≠ [] → t.pc = s.pc + 3) := by
  induction targets generalizing s with
  | nil => exact ⟨s, rfl, ⟨rfl, rfl, rfl, rfl, rfl, fun _ => rfl, fun _ _ => rfl⟩, fun h => absurd rfl h⟩
  | cons a targets ih =>
    rw [List.length_cons] at hsp hroom
    have hsp2 : 2 ≤ s.sp.toNat := by omega
    have hroom1 : s.shadow.length < s.cfg.shadowDepth := by omega
    have hacc := s.called_accounted a
    obtain ⟨u, hu, hkeep, -⟩ := ih (s := s.called a) (hacc.run.trans hrun)
      (by rw [State.called_sp, (sp_room_two hsp2).2.2]; omega)
      (by rw [hacc.cfg, State.called_shadow, if_pos hroom1, List.length_cons]; omega)
    obtain ⟨hret, hkeep', hpc⟩ := returned_of_called hsp2 hroom1 hkeep
    refine ⟨u.returned, ?_, hkeep', fun _ => hpc⟩
    rw [List.map_cons, List.cons_append, execAll_cons (exec_jsr a hsp2) (hacc.run.trans hrun), List.length_cons,
      List.replicate_succ', ← List.append_assoc, execAll_append _ _ hu, execAll_cons hret (hkeep'.run.trans hrun)]
    rfl

/-- Settles O43: each return finds the bytes and the frame of its own call. -/
theorem nestedCallsReturn : Obligations.NestedCallsReturn := by
  intro targets s hne hrun hsp hroom
  obtain ⟨t, ht, h, hpc⟩ := execAll_nested targets hrun hsp hroom
  exact ⟨t, ht, hpc hne, h.sp, h.shadow, h.reg .a, h.reg .x, h.reg .y, h.p⟩

/-! ### The enclosing routine -/

/-- The scan of R330 finds the first frame that matches. -/
theorem frameAt_eq_some (sp : Byte) (frames : List Frame) (r : Word) :
    frameAt sp frames = some r ↔ ∃ above f below, frames = above ++ f :: below ∧ f.target = r ∧
      f.sp.toNat = sp.toNat + 2 ∧ ∀ g ∈ above, g.sp.toNat ≠ sp.toNat + 2 := by
  induction frames with
  | nil => simp [frameAt]
  | cons g frames ih =>
    rw [frameAt]
    split
    · next hg =>
      constructor
      · intro h
        exact ⟨[], g, frames, rfl, Option.some.inj h, hg, nofun⟩
      · rintro ⟨above, f, below, hframes, hf, -, habove⟩
        cases above with
        | nil => rw [(List.cons.inj hframes).1, hf]
        | cons g' above =>
          obtain ⟨rfl, -⟩ := List.cons.inj hframes
          exact absurd hg (habove g List.mem_cons_self)
    · next hg =>
      rw [ih]
      constructor
      · rintro ⟨above, f, below, rfl, hf, hmatch, habove⟩
        exact ⟨g :: above, f, below, rfl, hf, hmatch, List.forall_mem_cons.mpr ⟨hg, habove⟩⟩
      · rintro ⟨above, f, below, hframes, hf, hmatch, habove⟩
        cases above with
        | nil =>
          obtain ⟨rfl, -⟩ := List.cons.inj hframes
          exact absurd hmatch hg
        | cons g' above =>
          exact ⟨above, f, below, (List.cons.inj hframes).2, hf, hmatch, (List.forall_mem_cons.mp habove).2⟩

theorem frameAt_eq_none (sp : Byte) (frames : List Frame) :
    frameAt sp frames = none ↔ ∀ f ∈ frames, f.sp.toNat ≠ sp.toNat + 2 := by
  induction frames with
  | nil => exact ⟨fun _ => nofun, fun _ => rfl⟩
  | cons g frames ih =>
    rw [frameAt, List.forall_mem_cons, ← ih]
    split
    · next hg => exact ⟨nofun, fun h => absurd hg h.1⟩
    · next hg => exact ⟨fun h => ⟨hg, h⟩, And.right⟩

/-- Settles O44: EnclosingRoutine is the scan of the whole shadow stack. -/
theorem enclosingRoutineIsTheNearestMatch : Obligations.EnclosingRoutineIsTheNearestMatch := fun s =>
  ⟨fun r => frameAt_eq_some s.sp s.shadow r, frameAt_eq_none s.sp s.shadow⟩

/-! ### Watch records -/

/-- What grouping gives: the samples in order, neighbouring records with different indexes, and no empty record. -/
structure Grouped (samples : List (Nat × Int)) (records : List (Nat × List Int)) : Prop where
  samples : records.flatMap (fun g => g.2.map fun v => (g.1, v)) = samples
  chain : records.IsChain (fun g h => g.1 ≠ h.1)
  nonempty : ∀ g ∈ records, g.2 ≠ []

theorem groupSamples_grouped (l : List (Nat × Int)) : Grouped l (groupSamples l) := by
  induction l with
  | nil => exact ⟨rfl, .nil, nofun⟩
  | cons e l ih =>
    obtain ⟨i, v⟩ := e
    obtain ⟨hsamples, hchain, hne⟩ := ih
    rw [groupSamples]
    split
    · next j vs g hg =>
      rw [hg] at hsamples hchain hne
      obtain ⟨hvs, hne'⟩ := List.forall_mem_cons.mp hne
      split
      · next hij =>
        subst hij
        have hchain' : ((i, v :: vs) :: g).IsChain (fun g h => g.1 ≠ h.1) := by
          cases hchain with
          | singleton => exact .singleton _
          | cons_cons hdiff htail => exact .cons_cons hdiff htail
        exact ⟨by rw [← hsamples]; rfl, hchain', List.forall_mem_cons.mpr ⟨List.cons_ne_nil v vs, hne'⟩⟩
      · next hij =>
        exact ⟨by rw [← hsamples]; rfl, .cons_cons hij hchain, List.forall_mem_cons.mpr ⟨List.cons_ne_nil v [], hne⟩⟩
    · next hg =>
      rw [hg] at hsamples
      exact ⟨by rw [← hsamples]; rfl, .singleton _, List.forall_mem_cons.mpr ⟨List.cons_ne_nil v [], nofun⟩⟩

theorem toInt_word (w : Word) : w.toInt = if w.toNat < 32768 then (w.toNat : Int) else (w.toNat : Int) - 65536 := by
  rw [BitVec.toInt_eq_toNat_cond]
  simp only [Nat.reducePow]
  split <;> split <;> omega

/-- The samples of a watch table are those of the watches selected, in table order. -/
theorem watchesAt_eq_filter (phase : WatchPhase) (pc0 : Word) (ws : List Watch) :
    watchesAt phase pc0 ws = ws.filter fun w => w.pc = pc0 ∧ w.phase = phase := by
  simp [watchesAt, beq_eq_decide, Bool.decide_and]

/-- Settles O45: the grouping, the records of a watch, and the value of each width. -/
theorem recordsGroupNeighbouringSamples : Obligations.RecordsGroupNeighbouringSamples := by
  refine ⟨fun l => ?_, fun phase pc0 s => ?_, fun n pc0 phase s => ⟨fun o b ho => ?_, fun k => ?_⟩⟩
  · obtain ⟨hsamples, hchain, hne⟩ := groupSamples_grouped l
    exact ⟨hsamples, hchain, hne⟩
  · obtain ⟨hsamples, hchain, hne⟩ :=
      groupSamples_grouped ((watchesAt phase pc0 s.cfg.watches).map fun w => (w.index, watchValue w s))
    exact ⟨_, rfl, by rw [hsamples, watchesAt_eq_filter], hchain, hne⟩
  · have hb : watchByte o s = b := by obtain ⟨k, rfl, rfl⟩ | ⟨r, rfl, rfl⟩ := ho <;> rfl
    exact ⟨by rw [watchValue, hb], by rw [watchValue, hb, toInt_byte]⟩
  · have hw : (watchWord (.mem k) s).toNat = 256 * (memRead s (k + 1)).toNat + (memRead s k).toNat := wordOf_toNat ..
    exact ⟨by rw [watchValue, hw], by rw [watchValue, toInt_word, hw]⟩

end Sys2Proof.Machine
end

section
/-! PROOF. The costs of the forms whose own statements leave them open (40_step.md R123, R124), and the setup of a run
(70_reset_and_hazards.md R380 to R382). -/

namespace Sys2Proof.Machine

/-! ### Costs -/

/-- A form whose effect changes the core alone costs its base cycles and the adjustment of its mode. -/
theorem ReadForm.Runs.accounted {f : ReadForm} {e : Byte → State → State} (h : f.Runs e)
    (he : ∀ (m : Byte) (u : State), CoreUpdate u (e m u)) {s t : State} (ht : exec f.instr s = .next t) :
    Accounted s t (f.base + f.src.adj s) := by
  rw [h.exec_eq, readInstr_eq_next] at ht
  obtain rfl := Host.Outcome.next.inj ht
  exact ((he ..).advances ..).toAccounted

/-- An implied instruction that changes the core alone costs its base cycles. -/
theorem accounted_of_implied {i : Instr} {op : Byte} {base : Nat} {f : State → State} {s t : State}
    (h : exec i s = impliedInstr op base f s) (hf : ∀ u, CoreUpdate u (f u)) (ht : exec i s = .next t) :
    Accounted s t base := by
  rw [h, impliedInstr_eq_next] at ht
  obtain rfl := Host.Outcome.next.inj ht
  exact ((hf _).advances ..).toAccounted

theorem accounted_of_jump {i : Instr} {op : Byte} {base : Nat} {m : AddrForm} {s t : State}
    (h : exec i s = jumpInstr op base m s) (ht : exec i s = .next t) : Accounted s t (base + m.adj s) := by
  rw [h, jumpInstr_eq_next] at ht
  obtain rfl := Host.Outcome.next.inj ht
  exact (s.jumped_effect ..).2.1

/-- A push of a register that completes costs its base cycles. -/
theorem accounted_of_push {i : Instr} {op : Byte} {base : Nat} (r : Reg) {s t : State}
    (h : exec i s = stackInstr op base (fun pc0 s1 => push pc0 (s1.reg r) s1) s) (ht : exec i s = .next t)
    (hrun : t.run = .running) : Accounted s t base := by
  rw [h] at ht
  by_cases hsp : s.sp = 0x00
  · rw [stackInstr_fatal (push_fatal (s := s.fetched 1) hsp)] at ht
    obtain rfl := Host.Outcome.next.inj ht
    cases hrun
  · rw [stackInstr_push op base r hsp] at ht
    obtain rfl := Host.Outcome.next.inj ht
    exact (s.pushed_advances ..).toAccounted

/-- A pull of a register that completes costs its base cycles. -/
theorem accounted_of_pull {i : Instr} {op : Byte} {base : Nat} {r : Reg} {s t : State}
    (h : exec i s = stackInstr op base (fun _ => pullReg r) s) (ht : exec i s = .next t) (hrun : t.run = .running) :
    Accounted s t base := by
  rw [h] at ht
  by_cases hsp : s.sp = 0xFF
  · rw [stackInstr_fatal (pullReg_fatal r (s := s.fetched 1) hsp)] at ht
    obtain rfl := Host.Outcome.next.inj ht
    cases hrun
  · rw [stackInstr_pullReg op base r hsp] at ht
    obtain rfl := Host.Outcome.next.inj ht
    exact (s.pulled_advances ..).toAccounted

/-- RTS that completes costs 6 cycles. -/
theorem accounted_of_rts {s t : State} (ht : exec .rts s = .next t) (hrun : t.run = .running) : Accounted s t 6 := by
  by_cases hsp : s.sp.toNat ≤ 0xFD
  · rw [exec_rts hsp] at ht
    obtain rfl := Host.Outcome.next.inj ht
    exact s.returned_accounted
  · obtain ⟨sp, e⟩ := exec_rts_fatal (s := s) (by bv_omega)
    rw [e] at ht
    obtain rfl := Host.Outcome.next.inj ht
    cases hrun

/-- The loads, compares and BIT, whose effect changes the core alone. -/
theorem costReadForms_run {v : Byte} {a : Word} {f : ReadForm} (h : f ∈ ldaForms v a ++ ldxForms v a ++ ldyForms v a ++
    cmpForms v a ++ cpxForms v a ++ cpyForms v a ++ bitForms v a) :
    ∃ e, f.Runs e ∧ ∀ (m : Byte) (u : State), CoreUpdate u (e m u) := by
  have hload (r : Reg) (m : Byte) (u : State) : CoreUpdate u (loadReg r m u) := loadReg_coreUpdate r m u
  have hcompare (r : Reg) (m : Byte) (u : State) : CoreUpdate u (compareEffect r m u) := setP_coreUpdate ..
  have hbit (m : Byte) (u : State) : CoreUpdate u (bitEffect m u) := setP_coreUpdate ..
  simp only [List.mem_append, or_assoc] at h
  obtain h | h | h | h | h | h | h := h
  · exact ⟨_, ldaForms_run h, hload .a⟩
  · exact ⟨_, ldxForms_run h, hload .x⟩
  · exact ⟨_, ldyForms_run h, hload .y⟩
  · exact ⟨_, cmpForms_run h, hcompare .a⟩
  · exact ⟨_, cpxForms_run h, hcompare .x⟩
  · exact ⟨_, cpyForms_run h, hcompare .y⟩
  · exact ⟨_, bitForms_run h, hbit⟩

/-- Settles O41: the read forms by their effect, the others by their kind. -/
theorem completedFormsCostTheirCycles : Obligations.CompletedFormsCostTheirCycles := by
  intro v a s t i cost hmem ht _ hrun
  rw [costForms, List.mem_append] at hmem
  obtain hread | hother := hmem
  · obtain ⟨f, hf, hform⟩ := List.mem_map.mp hread
    obtain ⟨rfl, rfl⟩ := Prod.mk.inj hform
    obtain ⟨e, hruns, he⟩ := costReadForms_run hf
    exact hruns.accounted he ht
  · have hload (op : Byte) (r : Reg) (w : State → Byte)
        (h : exec i s = impliedInstr op 2 (fun s1 => loadReg r (w s1) s1) s) : Accounted s t 2 :=
      accounted_of_implied h (fun u => loadReg_coreUpdate r (w u) u) ht
    simp only [List.mem_cons, Prod.mk.injEq, List.not_mem_nil, or_false] at hother
    obtain ⟨rfl, rfl⟩ | ⟨rfl, rfl⟩ | ⟨rfl, rfl⟩ | ⟨rfl, rfl⟩ | ⟨rfl, rfl⟩ | ⟨rfl, rfl⟩ | ⟨rfl, rfl⟩ | ⟨rfl, rfl⟩ | ⟨rfl, rfl⟩ |
      ⟨rfl, rfl⟩ | ⟨rfl, rfl⟩ | ⟨rfl, rfl⟩ | ⟨rfl, rfl⟩ | ⟨rfl, rfl⟩ | ⟨rfl, rfl⟩ | ⟨rfl, rfl⟩ | ⟨rfl, rfl⟩ | ⟨rfl, rfl⟩ |
      ⟨rfl, rfl⟩ | ⟨rfl, rfl⟩ | ⟨rfl, rfl⟩ := hother
    · exact hload 0xAA .x State.a rfl
    · exact hload 0xA8 .y State.a rfl
    · exact hload 0x8A .a State.x rfl
    · exact hload 0x98 .a State.y rfl
    · exact hload 0xBA .x State.sp rfl
    · exact accounted_of_implied (op := 0x9A) (f := fun s1 => s1.setSp s1.x) rfl (fun u => setSp_coreUpdate u.x u) ht
    · exact hload 0xE8 .x (fun s1 => s1.x + 1) rfl
    · exact hload 0xC8 .y (fun s1 => s1.y + 1) rfl
    · exact hload 0xCA .x (fun s1 => s1.x - 1) rfl
    · exact hload 0x88 .y (fun s1 => s1.y - 1) rfl
    · exact hload 0x1A .a (fun s1 => s1.a + 1) rfl
    · exact hload 0x3A .a (fun s1 => s1.a - 1) rfl
    · exact accounted_of_jump (op := 0x4C) (m := .absolute a) rfl ht
    · exact accounted_of_jump (op := 0x6C) (m := .indirect a) rfl ht
    · exact accounted_of_rts ht hrun
    · exact accounted_of_push (op := 0x48) .a rfl ht hrun
    · exact accounted_of_push (op := 0xDA) .x rfl ht hrun
    · exact accounted_of_push (op := 0x5A) .y rfl ht hrun
    · exact accounted_of_pull (op := 0x68) (r := .a) rfl ht hrun
    · exact accounted_of_pull (op := 0xFA) (r := .x) rfl ht hrun
    · exact accounted_of_pull (op := 0x7A) (r := .y) rfl ht hrun

/-! ### The setup of a run -/

theorem loadImage_wf (image : List Byte) (base : Nat) {m : Memory} (h : Memory.wf m = true) :
    Memory.wf (loadImage image base m) = true := by
  induction image generalizing base m with
  | nil => exact h
  | cons b rest ih =>
    rw [loadImage]
    split
    · next hbase => exact ih (base + 1) (cellsFrom_cellPut h (Nat.zero_le _) (by omega) b)
    · exact h

/-- The byte at an address after a load: the image's, or the one there was. -/
theorem cellGet_loadImage (image : List Byte) (base : Nat) (m : Memory) {k : Nat} (hk : k ≤ 0xFFFF) :
    cellGet (loadImage image base m) k =
      if base ≤ k ∧ k < base + image.length then image.getD (k - base) 0x00 else cellGet m k := by
  induction image generalizing base m with
  | nil => rw [loadImage, if_neg (by simp)]
  | cons b rest ih =>
    rw [loadImage, List.length_cons]
    split
    · next hbase =>
      rw [ih, cellGet_cellPut]
      by_cases hkb : k = base
      · subst hkb
        rw [if_neg (by omega), if_pos rfl, if_pos (by omega), Nat.sub_self]
        rfl
      · by_cases hin : base + 1 ≤ k ∧ k < base + 1 + rest.length
        · rw [if_pos hin, if_pos (by omega), show k - base = k - (base + 1) + 1 by omega, List.getD_cons_succ]
        · rw [if_neg hin, if_neg hkb, if_neg (by omega)]
    · next hbase => rw [if_neg (by omega)]

/-- Memory after a load into an empty memory: past the image every byte is 0x00. -/
theorem cellGet_loadImage_empty (image : List Byte) (base : Nat) {k : Nat} (hk : k ≤ 0xFFFF) :
    cellGet (loadImage image base []) k = if base ≤ k then image.getD (k - base) 0x00 else 0x00 := by
  rw [cellGet_loadImage image base [] hk]
  by_cases hin : k < base + image.length
  · simp only [hin, and_true]
    rfl
  · have hpast : image.getD (k - base) 0x00 = 0x00 := List.getD_eq_default _ _ (by omega)
    rw [if_neg (fun h => hin h.2), hpast, ite_self]
    rfl

theorem setup_some (cfg : Params) (start base : Word) (image : List Byte) : setup cfg start base (some image) =
    if cfg.watches.all Watch.accepted then
      some { State.reset with cfg := cfg, pc := start, mem := loadImage image base.toNat [] }
    else none := rfl

/-- Settles O60: the image loaded byte by byte, the image that cannot be read, and the rejected table. -/
theorem imageLoadsWithoutWrap : Obligations.ImageLoadsWithoutWrap := by
  refine ⟨fun cfg start base image s h => ?_, fun cfg start base => ?_, fun cfg start base image => ?_⟩
  · rw [setup_some] at h
    split at h
    · obtain rfl := Option.some.inj h
      exact ⟨loadImage_wf image base.toNat rfl, rfl, rfl, rfl, rfl,
        fun k => cellGet_loadImage_empty image base.toNat (Nat.le_of_lt_succ k.isLt)⟩
    · cases h
  · exact ⟨_, rfl, rfl, rfl, rfl, fun t => endedRunsTakeNoStep _ t nofun, profileRow_ioError rfl⟩
  · rw [setup_some]
    simp

end Sys2Proof.Machine
end
